-- ==== Sys2Proof/Word.lean ====
section
/-! DEFINITION. The words of the capacitive-touch-register-decoder: only what `00_scope.md` R5, R6 call numbers of a fixed
width. Nothing here computes anything. -/

namespace Sys2Proof

/-- A byte: 8 bits, unsigned, bit 0 the least significant (R6). -/
abbrev Byte := BitVec 8

/-- A command word: 24 bits, bit 23 the most significant (R70, `CMD_W` of R5). -/
abbrev CmdWord := BitVec 24

/-- A geometry quantity (rotation in degrees, width, height): u16 (R5 `GEOM_W`, R13, R14). -/
abbrev Geom16 := BitVec 16

/-- A raw coordinate: u12 (R5 `COORD_BITS`, R79). -/
abbrev Raw12 := BitVec 12

/-- A screen coordinate: i32, two's complement (R5 `XLEN`, R24). -/
abbrev Screen := BitVec 32

/-- One register snapshot: the bytes at offsets 0x00 to 0xBC, element `i` the byte at offset `i` (R27, R51). -/
abbrev Snapshot := Vector Byte 189

end Sys2Proof
end

