-- ==== Sys2Proof/Syntax.lean ====
section
/-! DEFINITION. The six commands of CTRD-1 (`30_encoding.md` R72), one constructor per row of the opcode table, and the
names under which the decoder turns a word away (R74). -/

namespace Sys2Proof

/-- A command (R72). Only WRREG carries operands (R70, R73); they are 8-bit fields by type. -/
inductive Instr where
  /-- INIT, opcode 0x01: construct the driver (R101). -/
  | init
  /-- WRREG off, val, opcode 0x02: write one configuration register (R104). -/
  | wrreg (off val : Byte)
  /-- RDSNAP, opcode 0x03: read the register snapshot (R121). -/
  | rdsnap
  /-- TOUCHED, opcode 0x04: per-point touch presence (R123, R124). -/
  | touched
  /-- COUNT, opcode 0x05: touch count (R125). -/
  | count
  /-- POINTS, opcode 0x06: current touch points (R148, R149). -/
  | points
  deriving DecidableEq, Repr

/-- Why a word is none of the six commands (R74). -/
inductive Illegal where
  /-- `op` is 0x00 or in 0x07..0xFF. -/
  | unassignedOpcode
  /-- `op` is one of 0x01, 0x03, 0x04, 0x05, 0x06 and bits 15..0 are not all zero (R73). -/
  | operandBitsSet
  deriving DecidableEq, Repr

/-- The mnemonic of a command, as the opcode table spells it (R72, R83). -/
def Instr.mnemonic : Instr → String
  | .init => "INIT"
  | .wrreg _ _ => "WRREG"
  | .rdsnap => "RDSNAP"
  | .touched => "TOUCHED"
  | .count => "COUNT"
  | .points => "POINTS"

end Sys2Proof
end

