-- ==== Sys2Proof/WellFormed.lean ====
section
/-! DEFINITION. Well-formed command words, written from the match and mask pairs of `30_encoding.md` R72, apart from the
decoder. A term of `Instr` has no ill-formed value: the two operands of WRREG are 8-bit by type and "`WRREG` with any
`off` is a well-formed command" (R73). So the check is on words: one row per command. -/

namespace Sys2Proof

/-- One row of R72's match and mask list. -/
structure OpcodeRow where
  mnemonic : String
  mask : CmdWord
  pattern : CmdWord
  deriving DecidableEq, Repr

/-- R72: the words of each command. -/
def opcodeTable : List OpcodeRow :=
  [⟨"INIT", 0xFFFFFF, 0x010000⟩,
   ⟨"WRREG", 0xFF0000, 0x020000⟩,
   ⟨"RDSNAP", 0xFFFFFF, 0x030000⟩,
   ⟨"TOUCHED", 0xFFFFFF, 0x040000⟩,
   ⟨"COUNT", 0xFFFFFF, 0x050000⟩,
   ⟨"POINTS", 0xFFFFFF, 0x060000⟩]

/-- `w` is a word of the row (R72: `w & mask = match`). -/
def OpcodeRow.covers (row : OpcodeRow) (w : CmdWord) : Bool := w &&& row.mask == row.pattern

/-- `w` is one of the six commands; every other word is illegal (R74). -/
def wellFormedWord (w : CmdWord) : Bool := opcodeTable.any (·.covers w)

end Sys2Proof
end

