-- ==== Sys2Proof/Decode.lean ====
section
/-! DEFINITION. The command decoder and encoder (`30_encoding.md` R70, R72 to R74). The decoder is total: every word is
exactly one of the six commands or illegal, and it is the same in every state (R76). -/

namespace Sys2Proof

/-- Bits 23..16 of a command word (R70). -/
def opField (w : CmdWord) : Byte := w.extractLsb' 16 8

/-- Bits 15..8 of a command word (R70). -/
def offField (w : CmdWord) : Byte := w.extractLsb' 8 8

/-- Bits 7..0 of a command word (R70). -/
def valField (w : CmdWord) : Byte := w.extractLsb' 0 8

/-- A command without operands: bits 15..0 must be zero (R73). -/
def decodePlain (w : CmdWord) (i : Instr) : Except Illegal Instr :=
  if offField w = 0 ∧ valField w = 0 then .ok i else .error .operandBitsSet

/-- The decoder (R72, R73, R74). -/
def decode (w : CmdWord) : Except Illegal Instr :=
  if opField w = 0x01 then decodePlain w .init
  else if opField w = 0x02 then .ok (.wrreg (offField w) (valField w))
  else if opField w = 0x03 then decodePlain w .rdsnap
  else if opField w = 0x04 then decodePlain w .touched
  else if opField w = 0x05 then decodePlain w .count
  else if opField w = 0x06 then decodePlain w .points
  else .error .unassignedOpcode

/-- The word of a command (R83: `WRREG off, val` is `0x020000 | off << 8 | val`). -/
def encode : Instr → CmdWord
  | .init => 0x010000
  | .wrreg off val => 0x020000 ||| (off.setWidth 24 <<< 8) ||| val.setWidth 24
  | .rdsnap => 0x030000
  | .touched => 0x040000
  | .count => 0x050000
  | .points => 0x060000

/-- The host's question: the instruction the decoder reads from a table row's word. Every command is one 24-bit word
presented whole on the command port (R70, R76), so there is no byte order to settle. -/
def decodeTableWord (nbits w : Nat) : Option Instr :=
  if nbits ≤ 24 ∧ w < 2 ^ nbits then
    match decode (BitVec.ofNat 24 w) with
    | .ok i => some i
    | .error _ => none
  else none

end Sys2Proof
end

