-- ==== Sys2Proof/Config.lean ====
section
/-! DEFINITION. What an implementation fixes (`00_scope.md` R5), the vocabulary of the bus port (`20_memory.md` R46,
R47), and the model's one free value: what the bus answers where nothing has been scripted. -/

namespace Sys2Proof

/-- `DEV_ADDR`, the device address in every transaction (R5, R48). -/
def devAddr : Byte := 0x38

/-- `BLOCK_BASE`, where the snapshot read starts (R5, R50). -/
def blockBase : Byte := 0x00

/-- `BLOCK_LAST`, the last offset of the register block (R5, R41). -/
def blockLast : Byte := 0xBC

/-- `BLOCK_LEN`, the length of a snapshot in bytes (R5, R41). -/
def blockLen : Nat := 189

/-- `NO_TOUCH`, the sentinel of the 2-bit status flag (R5, R77). -/
def noTouch : BitVec 2 := 0b11

/-- `SNAP_POLICY`: one snapshot for an operation, or one for each of its steps (R5, D9, D10). -/
inductive SnapPolicy where
  | single
  | perStep
  deriving DecidableEq, Repr

/-- An inclusive range of register offsets. -/
structure OffsetRange where
  first : Byte
  last : Byte
  deriving DecidableEq, Repr

/-- The two parameters an implementation chooses (R2, R5). -/
structure Params where
  /-- `SNAP_POLICY` (D9). -/
  snapPolicy : SnapPolicy
  /-- `VALID_OFFSETS` as the union of these ranges (D12). -/
  validOffsets : List OffsetRange
  deriving DecidableEq, Repr

/-- The defaults of R5: `single`, and every offset of the block. -/
def defaultParams : Params := ⟨.single, [⟨blockBase, blockLast⟩]⟩

/-- A request on the bus-master port (R46, R47). -/
inductive BusRequest where
  /-- `read_registers(device, start, length)`. -/
  | read (device start : Byte) (length : Nat)
  /-- `write_register(device, offset, bytes)`. -/
  | write (device offset : Byte) (bytes : List Byte)
  deriving DecidableEq, Repr

/-- What the bus transport does with one request (R46, R47, D20). -/
inductive BusAnswer where
  /-- Success. The bytes of a read; a write's success carries none that the block looks at. -/
  | ok (bytes : List Byte)
  /-- Failure, for whatever reason (R171). -/
  | failure
  /-- The request is never answered (R183). -/
  | never
  deriving DecidableEq, Repr, Inhabited

/-- FREE VALUE: the answer to a request for which the run scripts none, given all requests issued up to and with that
one. No rule constrains it (R57, R59, D20, D22): it may be any bytes, of any number, a failure, or never. It is applied
to the whole history so that no two requests, and no two histories, are made to share an answer. -/
opaque Config.freeAnswer : List BusRequest → BusAnswer

end Sys2Proof
end

