-- ==== Sys2Proof/Machine/State.lean ====
section
/-! DEFINITION. The state of the block (`10_state.md` R10), the environment data it is driven by, the reset state (R31), and
the types the machine's operations speak of. Only data: every computation stands in the files beside this one. -/

namespace Sys2Proof.Machine

/-- Faults of the model. There is none: the block's six faults (R170) are outcomes of an operation, taken as next states
with a code in `R_STATUS` (R174), and a bus that never answers is a wait, not a fault (R183, R9 item 5). Safe. -/
inductive Fault where
  deriving DecidableEq, Repr

/-- The result registers a caller may read (R21 to R25). -/
inductive ResultReg where
  | snap
  | touch
  | count
  | npts
  | x (i : Fin 2)
  | y (i : Fin 2)
  deriving DecidableEq, Repr

/-- Refusals of the model. -/
inductive Refusal where
  /-- Raised by no arm of `exec` at present: an instruction without a meaning. Safe: the model stops. -/
  | notModelled (mnemonic : String)
  /-- Raised by the caller's reads of a result register (`readCount` and the others of Machine/Response.lean), never by a
  step: the register's flag is clear, so it "holds no value" (R21, R24, U14). Safe: nothing is answered. -/
  | noValue (reg : ResultReg)
  deriving DecidableEq, Repr

/-- What the geometry provider drives, or what INIT captured of it (R15). -/
structure Geometry where
  rot : Geom16
  width : Geom16
  height : Geom16
  deriving DecidableEq, Repr

/-- The input pins in one step: the reset input (R200), the command port with its word when valid (R71), the geometry
port (R15). -/
structure Inputs where
  reset : Bool
  cmd : Option CmdWord
  geom : Geometry
  deriving DecidableEq, Repr

/-- A point slot (R8, R5 `NSLOTS`). -/
inductive Slot where
  | slot1
  | slot2
  deriving DecidableEq, Repr

/-- The named registers of the peripheral's map (R42, R43). -/
inductive RegName where
  | devMode
  | gestId
  | tdStatus
  | xh (k : Slot)
  | xl (k : Slot)
  | yh (k : Slot)
  | yl (k : Slot)
  | weight (k : Slot)
  | misc (k : Slot)
  deriving DecidableEq, Repr

/-- What the map of R42 says of an offset. -/
inductive MapEntry where
  | named (r : RegName)
  /-- 0x0F..0x7F: carried in the snapshot, never decoded. -/
  | unnamed
  /-- 0x80..0xBC: the "pro" configuration registers. -/
  | proConfig
  /-- 0xBD..0xFF: outside the block (R40). -/
  | outside
  deriving DecidableEq, Repr

/-- The four valid angles (R13, R81). -/
inductive Rotation where
  | deg0
  | deg90
  | deg180
  | deg270
  deriving DecidableEq, Repr

/-- A raw point of a slot (R142). -/
structure RawPoint where
  x : Raw12
  y : Raw12
  deriving DecidableEq, Repr

/-- A point in display space (R143). -/
structure Point where
  x : Screen
  y : Screen
  deriving DecidableEq, Repr

/-- The six fault causes with the information each carries (R170). -/
inductive Cause where
  | illegalCommand (word : CmdWord)
  | notConstructed
  | alreadyConstructed
  | offsetInvalid (off : Byte)
  | transportFailure (index : BitVec 2)
  | rotationInvalid (rot : Geom16)
  deriving DecidableEq, Repr

/-- How the block takes the bus's answer to one request (R46, R47, D20). -/
inductive Reply (α : Type) where
  | answered (a : α)
  | failed
  | never
  deriving DecidableEq, Repr

/-- The response of a finished operation: the status registers, and the result registers whose flag is set (R26). -/
structure Response where
  status : Byte
  finfo : BitVec 24
  snap : Option Snapshot
  touch : Option (BitVec 2)
  count : Option Byte
  points : Option (List Point)
  deriving DecidableEq, Repr

/-- The state. From `constructed` to `rSnap`: the architectural state of R10, one field per register. After it: what the
block is driven by and what is seen of it from outside, which R10 does not count as its state. -/
structure State where
  /-- `CONSTRUCTED` (R11). -/
  constructed : Bool
  /-- `ROT`, captured degrees, not validated (R13). -/
  rot : Geom16
  /-- `WIDTH` (R14). -/
  width : Geom16
  /-- `HEIGHT` (R14). -/
  height : Geom16
  /-- `SEQ`: 0 idle, k = waiting for the answer to the k-th bus request (R17). -/
  seq : BitVec 2
  /-- `R_STATUS` (R19). -/
  rStatus : Byte
  /-- `R_FINFO` (R20). -/
  rFinfo : BitVec 24
  /-- `R_VALID`: V_SNAP, V_TOUCH, V_COUNT, V_PTS at bits 0 to 3 (R21). -/
  rValid : BitVec 4
  /-- `R_COUNT` (R22). -/
  rCount : Byte
  /-- `R_TOUCH`: bit 0 slot 1, bit 1 slot 2 (R23). -/
  rTouch : BitVec 2
  /-- `R_NPTS` (R24). -/
  rNpts : BitVec 2
  /-- `R_X[0..1]` (R24). -/
  rX : Vector Screen 2
  /-- `R_Y[0..1]` (R24). -/
  rY : Vector Screen 2
  /-- `R_SNAP[0..188]` (R25). -/
  rSnap : Snapshot
  /-- The implementation's parameters (R5); no step writes them. -/
  params : Params
  /-- The value on the geometry port in the present step (R15). -/
  geomPort : Geometry
  /-- The input pins of the coming steps, one element a step (R207). -/
  inputs : List Inputs
  /-- The scripted answers of the bus to the coming requests, in order; beyond them `Config.freeAnswer` answers. -/
  bus : List BusAnswer
  /-- Every request issued so far, in order: half of a run's observable outcome (R206). No operation reads it; it is
  what the free answer is applied to. -/
  traffic : List BusRequest
  deriving DecidableEq, Repr

/-- The machine right after reset (R31). DESIGN CHOICE, log entries 5 and 6: zero for every field to which R31 gives "no
value", for the geometry port and for the lists; `defaultParams` are the defaults of R5. -/
def State.reset : State where
  constructed := false
  rot := 0
  width := 0
  height := 0
  seq := 0
  rStatus := 0x00
  rFinfo := 0
  rValid := 0b0000
  rCount := 0
  rTouch := 0
  rNpts := 0
  rX := Vector.replicate 2 0
  rY := Vector.replicate 2 0
  rSnap := Vector.replicate 189 0
  params := defaultParams
  geomPort := ⟨0, 0, 0⟩
  inputs := []
  bus := []
  traffic := []

end Sys2Proof.Machine
end

