-- ==== Sys2Proof/Machine/Flags.lean ====
section
/-! DEFINITION. The flags: the touched flag of a slot (`41_snapshot_queries.md` R122) and the four result flags of
`R_VALID` (`10_state.md` R21). There are no condition codes. -/

namespace Sys2Proof.Machine

/-- `TOUCHFLAG(xh)`: bits 7..6 differ from the sentinel (R122). -/
def touchFlag (xh : Byte) : Bool := xh.extractLsb' 6 2 != noTouch

/-- `R_TOUCH` from the two flags: bit 0 slot 1, bit 1 slot 2 (R23). -/
def touchPair (t1 t2 : Bool) : BitVec 2 := BitVec.ofBool t2 ++ BitVec.ofBool t1

/-- `V_SNAP`, bit 0 of `R_VALID` (R21). -/
def vSnap : BitVec 4 := 0b0001

/-- `V_TOUCH`, bit 1 of `R_VALID` (R21). -/
def vTouch : BitVec 4 := 0b0010

/-- `V_COUNT`, bit 2 of `R_VALID` (R21). -/
def vCount : BitVec 4 := 0b0100

/-- `V_PTS`, bit 3 of `R_VALID` (R21). -/
def vPts : BitVec 4 := 0b1000

/-- The flag an operation sets when it succeeds; INIT and WRREG set none (R21). -/
def resultFlag : Instr → BitVec 4
  | .init => 0
  | .wrreg _ _ => 0
  | .rdsnap => vSnap
  | .touched => vTouch
  | .count => vCount
  | .points => vPts

end Sys2Proof.Machine
end

