-- ==== Sys2Proof/Machine/Operands.lean ====
section
/-! DEFINITION. Where the operations find their data: the register map (`20_memory.md` R42, R43), the 12-bit coordinate and
raw point of a slot (`42_touch_points_and_rotation.md` R140, R142), the rotation (R143), the captured geometry as the
rotation reads it (R145), and WRREG's offset check (R105). All are pure. -/

namespace Sys2Proof.Machine

/-- `base(k) = 0x03 + 6*(k-1)` (R43). -/
def slotBase : Slot → Nat
  | .slot1 => 0x03
  | .slot2 => 0x09

/-- The offset of a named register (R42, R43). -/
def RegName.offset : RegName → Nat
  | .devMode => 0x00
  | .gestId => 0x01
  | .tdStatus => 0x02
  | .xh k => slotBase k
  | .xl k => slotBase k + 1
  | .yh k => slotBase k + 2
  | .yl k => slotBase k + 3
  | .weight k => slotBase k + 4
  | .misc k => slotBase k + 5

/-- A named register lies in the block (R44: the decoding offsets cannot be out of range). -/
theorem RegName.offset_lt (r : RegName) : r.offset < 189 := by
  cases r with
  | devMode | gestId | tdStatus => decide
  | xh k | xl k | yh k | yl k | weight k | misc k => cases k <;> decide

/-- The byte of a snapshot at a named register (R51). -/
def regByte (S : Snapshot) (r : RegName) : Byte := S[r.offset]'r.offset_lt

/-- The named registers in the order of their offsets, 0x00 to 0x0E (R42). -/
def namedRegs : List RegName :=
  [.devMode, .gestId, .tdStatus,
   .xh .slot1, .xl .slot1, .yh .slot1, .yl .slot1, .weight .slot1, .misc .slot1,
   .xh .slot2, .xl .slot2, .yh .slot2, .yl .slot2, .weight .slot2, .misc .slot2]

/-- The register map of R42, as a table from offsets. -/
def registerMap (off : Byte) : MapEntry :=
  match namedRegs[off.toNat]? with
  | some r => .named r
  | none => if off < 0x80 then .unnamed else if off ≤ blockLast then .proConfig else .outside

/-- `COORD12(high, low)` (R140). -/
def coord12 (high low : Byte) : Raw12 := ((high &&& 0x0F).setWidth 12 <<< 8) ||| low.setWidth 12

/-- `RAWPOINT(S, k)` (R142). -/
def rawPoint (S : Snapshot) (k : Slot) : RawPoint where
  x := coord12 (regByte S (.xh k)) (regByte S (.xl k))
  y := coord12 (regByte S (.yh k)) (regByte S (.yl k))

/-- `ROT_OK` and the selector in one: the rotation a number of degrees stands for; equality with one of four numbers, not
congruence (R13, R81). -/
def rotSelect (rot : Geom16) : Option Rotation :=
  if rot = 0 then some .deg0
  else if rot = 90 then some .deg90
  else if rot = 180 then some .deg180
  else if rot = 270 then some .deg270
  else none

/-- `ROTATE(rot, w, h, (x, y))`, the table of R143 with `sub32` as 32-bit subtraction (R7, R146). -/
def rotate (r : Rotation) (w h : Screen) (p : Point) : Point :=
  match r with
  | .deg0 => ⟨p.x, p.y⟩
  | .deg90 => ⟨h - p.y, p.x⟩
  | .deg180 => ⟨w - p.x, h - p.y⟩
  | .deg270 => ⟨p.y, w - p.x⟩

/-- A raw point widened to i32 by zero extension (R79, R141 (e)). -/
def RawPoint.widen (p : RawPoint) : Point := ⟨p.x.setWidth 32, p.y.setWidth 32⟩

/-- The display point of a slot: its raw point rotated with the captured un-rotated width `w` and height `h` (R145). -/
def slotPoint (r : Rotation) (w h : Geom16) (S : Snapshot) (k : Slot) : Point :=
  rotate r (w.setWidth 32) (h.setWidth 32) (rawPoint S k).widen

/-- `off` in `VALID_OFFSETS` (R105). -/
def offsetValid (p : Params) (off : Byte) : Bool :=
  p.validOffsets.any fun r => decide (r.first ≤ off) && decide (off ≤ r.last)

end Sys2Proof.Machine
end

