-- ==== Sys2Proof/Machine/Ops.lean ====
section
/-! DEFINITION. The operations every command is made of: acceptance (`30_encoding.md` R71), fault entry
(`60_exceptions.md` R174), the successful end (`10_state.md` R19 to R21), the two bus primitives (`20_memory.md` R46, R47)
and the reset event (`70_reset_and_hazards.md` R200). There is no return from a fault to model: "there is no
return-from-fault command and nothing to restore" (R175); the next acceptance is all there is. -/

namespace Sys2Proof.Machine

/-- Acceptance of a command clears `R_VALID` (R21). -/
def accept (s : State) : State := { s with rValid := 0b0000 }

/-- `ready = (SEQ = 0)`: a command presented in any other phase is not accepted and has no effect (R71). -/
def whenReady (op : State → State) (s : State) : State := if s.seq = 0 then op (accept s) else s

/-- The code of a fault in `R_STATUS` (R170). -/
def Cause.code : Cause → Byte
  | .illegalCommand _ => 0x01
  | .notConstructed => 0x02
  | .alreadyConstructed => 0x03
  | .offsetInvalid _ => 0x04
  | .transportFailure _ => 0x05
  | .rotationInvalid _ => 0x06

/-- The information of a fault in `R_FINFO`, zero-extended to 24 bits (R20, R170). -/
def Cause.info : Cause → BitVec 24
  | .illegalCommand w => w
  | .notConstructed => 0
  | .alreadyConstructed => 0
  | .offsetInvalid off => off.setWidth 24
  | .transportFailure k => k.setWidth 24
  | .rotationInvalid rot => rot.setWidth 24

/-- `raise F(info)`, fault entry: code and information are written, the block is idle again, nothing else changes;
`R_VALID` was cleared at acceptance (R174). -/
def raise (c : Cause) (s : State) : State := { s with rStatus := c.code, rFinfo := c.info, seq := 0 }

/-- The successful end: the operation's flag is set, the status is OK, the block is idle again (R19, R20, R21). -/
def succeed (flag : BitVec 4) (s : State) : State :=
  { s with rValid := s.rValid ||| flag, rStatus := 0x00, rFinfo := 0, seq := 0 }

/-- The lifecycle test of every command but INIT (R173 item 2, R120 (a)). -/
def whenConstructed (op : State → State) (s : State) : State :=
  if s.constructed then op s else raise .notConstructed s

/-- The one read the block ever makes: the whole register block in one transaction (R50, R52). -/
def snapshotRequest : BusRequest := .read devAddr blockBase blockLen

/-- The one form of write: one byte at one offset (R47, R106). -/
def writeRequest (off val : Byte) : BusRequest := .write devAddr off [val]

/-- What the bus answers to request `r` if `s` issues it next: the first scripted answer, or the free one. -/
def State.answerTo (s : State) (r : BusRequest) : BusAnswer :=
  match s.bus with
  | a :: _ => a
  | [] => Config.freeAnswer (s.traffic ++ [r])

/-- Issue request `r` as the operation's `k`-th (R18); its answer is drawn and used up. -/
def issue (k : BitVec 2) (r : BusRequest) (s : State) : State :=
  { s with seq := k, traffic := s.traffic ++ [r], bus := s.bus.tail }

/-- The answer to a snapshot read: exactly 189 bytes, byte `i` at offset `i`, or else a failure (R46, R51, D21). -/
def asSnapshot : BusAnswer → Reply Snapshot
  | .ok bytes => if h : bytes.length = 189 then .answered ⟨bytes.toArray, by simpa using h⟩ else .failed
  | .failure => .failed
  | .never => .never

/-- The answer to a register write: the block learns success or failure (R47). -/
def asWritten : BusAnswer → Reply Unit
  | .ok _ => .answered ()
  | .failure => .failed
  | .never => .never

/-- What an operation does with the answer to its `k`-th request: it goes on, or it ends with TRANSPORT_FAILURE(k)
(R171), or it waits for ever with `SEQ = k` and nothing else written (R183). -/
def afterReply {α : Type} (k : BitVec 2) (reply : Reply α) (next : α → State → State) (s : State) : State :=
  match reply with
  | .answered a => next a s
  | .failed => raise (.transportFailure k) s
  | .never => s

/-- What the block gets for a snapshot read issued next (R46). -/
def snapshotReply (s : State) : Reply Snapshot := asSnapshot (s.answerTo snapshotRequest)

/-- What the block gets for a write of `val` to `off` issued next (R47). -/
def writtenReply (off val : Byte) (s : State) : Reply Unit := asWritten (s.answerTo (writeRequest off val))

/-- `S <- MemRead(0x00, 189)` as the operation's `k`-th transaction, then `next S` (R46, R50). -/
def readSnapshot (k : BitVec 2) (next : Snapshot → State → State) (s : State) : State :=
  afterReply k (snapshotReply s) next (issue k snapshotRequest s)

/-- `MemWrite(off, 1, [val])` as the operation's `k`-th transaction, then `next` (R47). -/
def writeRegister (k : BitVec 2) (off val : Byte) (next : State → State) (s : State) : State :=
  afterReply k (writtenReply off val s) (fun _ => next) (issue k (writeRequest off val) s)

/-- The test before each use of ROTATE: ROTATION_INVALID when `ROT` is none of the four angles (R144). -/
def whenRotation (use : Rotation → State → State) (s : State) : State :=
  match rotSelect s.rot with
  | some r => use r s
  | none => raise (.rotationInvalid s.rot) s

/-- `R_NPTS <- length(pts)` and `(R_X[i], R_Y[i]) <- pts[i]` for `i < R_NPTS`; no rule makes a list of more than two
(R148, R24). -/
def deliver (pts : List Point) (s : State) : State :=
  match pts with
  | [] => { s with rNpts := 0 }
  | [p] => { s with rNpts := 1, rX := s.rX.set 0 p.x, rY := s.rY.set 0 p.y }
  | p :: q :: _ =>
    { s with rNpts := 2, rX := (s.rX.set 0 p.x).set 1 q.x, rY := (s.rY.set 0 p.y).set 1 q.y }

/-- The reset event: the block's state as R31 has it, from any phase and without a bus transaction; parameters, pins, the
bus and what has been seen of it are outside the block and stay (R200, R201, R202). -/
def applyReset (s : State) : State :=
  { State.reset with
    params := s.params, geomPort := s.geomPort, inputs := s.inputs, bus := s.bus, traffic := s.traffic }

/-- An accepted word that is none of the six commands ends at once with ILLEGAL_COMMAND (R74, R173 item 1). -/
def illegalCommand (w : CmdWord) (s : State) : State := whenReady (raise (.illegalCommand w)) s

end Sys2Proof.Machine
end

