-- ==== Sys2Proof/Machine/Construction.lean ====
section
/-! DEFINITION. INIT and WRREG (`40_construction_and_config.md`). -/

namespace Sys2Proof.Machine

/-- INIT's own work: capture the geometry port unchecked, once (R101, R102, R103). -/
def captureGeometry (s : State) : State :=
  if s.constructed then raise .alreadyConstructed s
  else
    succeed (resultFlag .init)
      { s with rot := s.geomPort.rot, width := s.geomPort.width, height := s.geomPort.height, constructed := true }

/-- INIT (R101). -/
def execInit (s : State) : Host.Outcome State Fault Refusal := .next (whenReady captureGeometry s)

/-- WRREG's own work, after the lifecycle test: the offset check, then one write (R104, R105, R106). -/
def writeConfig (off val : Byte) (s : State) : State :=
  if offsetValid s.params off then writeRegister 1 off val (succeed (resultFlag (.wrreg off val))) s
  else raise (.offsetInvalid off) s

/-- WRREG (R104). -/
def execWrreg (off val : Byte) (s : State) : Host.Outcome State Fault Refusal :=
  .next (whenReady (whenConstructed (writeConfig off val)) s)

end Sys2Proof.Machine
end

