-- ==== Sys2Proof/Machine/Points.lean ====
section
/-! DEFINITION. POINTS (`42_touch_points_and_rotation.md`). -/

namespace Sys2Proof.Machine

/-- The successful end of POINTS with its ordered result (R148, R151). -/
def finishPoints (pts : List Point) (s : State) : State := succeed (resultFlag .points) (deliver pts s)

/-- POINTS under `single`: count and points of one snapshot; the count alone decides (R148, R150, R155). -/
def pointsSingle : State → State :=
  readSnapshot 1 fun S s =>
    if 1 ≤ regByte S .tdStatus then
      whenRotation (fun r s =>
        if 2 ≤ regByte S .tdStatus then
          finishPoints [slotPoint r s.width s.height S .slot1, slotPoint r s.width s.height S .slot2] s
        else finishPoints [slotPoint r s.width s.height S .slot1] s) s
    else finishPoints [] s

/-- POINTS under `per_step`: the count of a first snapshot, point 1 of a second, point 2 of a third (R149). -/
def pointsPerStep : State → State :=
  readSnapshot 1 fun Sa s =>
    if 1 ≤ regByte Sa .tdStatus then
      readSnapshot 2 (fun Sb =>
        whenRotation fun r s =>
          if 2 ≤ regByte Sa .tdStatus then
            readSnapshot 3 (fun Sc s =>
              finishPoints [slotPoint r s.width s.height Sb .slot1, slotPoint r s.width s.height Sc .slot2] s) s
          else finishPoints [slotPoint r s.width s.height Sb .slot1] s) s
    else finishPoints [] s

/-- POINTS's own work under the implementation's `SNAP_POLICY` (R148, R149). -/
def queryPoints (s : State) : State :=
  match s.params.snapPolicy with
  | .single => pointsSingle s
  | .perStep => pointsPerStep s

/-- POINTS (R148, R149). -/
def execPoints (s : State) : Host.Outcome State Fault Refusal := .next (whenReady (whenConstructed queryPoints) s)

end Sys2Proof.Machine
end

