-- ==== Sys2Proof/Machine/Queries.lean ====
section
/-! DEFINITION. RDSNAP, TOUCHED and COUNT (`41_snapshot_queries.md`). -/

namespace Sys2Proof.Machine

/-- RDSNAP's own work: one snapshot, copied whole (R121). -/
def copySnapshot : State → State :=
  readSnapshot 1 fun S s => succeed (resultFlag .rdsnap) { s with rSnap := S }

/-- RDSNAP (R121). -/
def execRdsnap (s : State) : Host.Outcome State Fault Refusal := .next (whenReady (whenConstructed copySnapshot) s)

/-- The touched flag of slot `k` in a snapshot: its high-X byte decides, nothing else (R123, R127). -/
def slotTouched (S : Snapshot) (k : Slot) : Bool := touchFlag (regByte S (.xh k))

/-- TOUCHED under `single`: both flags of one snapshot (R123). -/
def touchedSingle : State → State :=
  readSnapshot 1 fun S s =>
    succeed (resultFlag .touched) { s with rTouch := touchPair (slotTouched S .slot1) (slotTouched S .slot2) }

/-- TOUCHED under `per_step`: slot 1 of a first snapshot, slot 2 of a second (R124). -/
def touchedPerStep : State → State :=
  readSnapshot 1 fun Sa =>
    readSnapshot 2 fun Sb s =>
      succeed (resultFlag .touched) { s with rTouch := touchPair (slotTouched Sa .slot1) (slotTouched Sb .slot2) }

/-- TOUCHED's own work under the implementation's `SNAP_POLICY` (R123, R124). -/
def queryTouched (s : State) : State :=
  match s.params.snapPolicy with
  | .single => touchedSingle s
  | .perStep => touchedPerStep s

/-- TOUCHED (R123, R124). -/
def execTouched (s : State) : Host.Outcome State Fault Refusal := .next (whenReady (whenConstructed queryTouched) s)

/-- COUNT's own work: the raw TD_STATUS byte, neither clamped nor masked (R125, R126). -/
def queryCount : State → State :=
  readSnapshot 1 fun S s => succeed (resultFlag .count) { s with rCount := regByte S .tdStatus }

/-- COUNT (R125). -/
def execCount (s : State) : Host.Outcome State Fault Refusal := .next (whenReady (whenConstructed queryCount) s)

end Sys2Proof.Machine
end

