-- ==== Sys2Proof/Machine/Dispatch.lean ====
section
/-! DEFINITION. One arm per command, each one call of its meaning. -/

namespace Sys2Proof.Machine

def exec (i : Instr) (s : State) : Host.Outcome State Fault Refusal :=
  match i with
  | .init => Sys2Proof.Machine.execInit s
  | .wrreg off val => Sys2Proof.Machine.execWrreg off val s
  | .rdsnap => Sys2Proof.Machine.execRdsnap s
  | .touched => Sys2Proof.Machine.execTouched s
  | .count => Sys2Proof.Machine.execCount s
  | .points => Sys2Proof.Machine.execPoints s

end Sys2Proof.Machine
end

