-- ==== Sys2Proof/Machine/Port.lean ====
section
/-! DEFINITION. The input pins of a step (`70_reset_and_hazards.md` R207): the reset input, the command port and the geometry
port. The block fetches nothing from a memory; a command is what the caller presents (`10_state.md` R17, R62). -/

namespace Sys2Proof.Machine

/-- Take the pins of this step: the geometry port holds their geometry, and the following element is the next step's. With
no element left the pins are at rest. -/
def sampleInputs (s : State) : State :=
  match s.inputs with
  | [] => s
  | p :: rest => { s with inputs := rest, geomPort := p.geom }

/-- The reset input is asserted in this step (R200). -/
def resetAsserted (s : State) : Bool :=
  match s.inputs with
  | [] => false
  | p :: _ => p.reset

/-- The word on the command port in this step, when the caller holds one with `valid` (R71). Reset overrides the port (log
entry 10). -/
def presentedWord (s : State) : Option CmdWord :=
  match s.inputs with
  | [] => none
  | p :: _ => if p.reset then none else p.cmd

/-- A step in which no word is presented: the reset event if the input is asserted, else nothing happens in the block
(R203: "the block is in IDLE and executes nothing on its own"; R183). -/
def quietStep (s : State) : State :=
  if resetAsserted s then applyReset (sampleInputs s) else sampleInputs s

/-- The pins of a step that presents `w` and leaves the geometry port as it is. -/
def presenting (w : CmdWord) (s : State) : Inputs := ⟨false, some w, s.geomPort⟩

end Sys2Proof.Machine
end

