-- ==== Sys2Proof/Machine/Step.lean ====
section
/-! DEFINITION. One step of the block: the pins are sampled, and a presented word is decoded and run, its bus answers drawn
in order (`10_state.md` R18 lets an operation be one atomic step; `30_encoding.md` R71, R74). -/

namespace Sys2Proof.Machine

/-- One step. -/
def step (s : State) : Host.Outcome State Fault Refusal :=
  match presentedWord s with
  | none => .next (quietStep s)
  | some w =>
    match decode w with
    | .ok i => exec i (sampleInputs s)
    | .error _ => .next (illegalCommand w (sampleInputs s))

/-- `s` with a command word on the command port in its next step, and the sequencer idle so that the port is ready. -/
def State.withFetchWord (s : State) (nbits w : Nat) : State :=
  { s with seq := 0, inputs := presenting (BitVec.ofNat 24 (w % 2 ^ nbits)) s :: s.inputs }

end Sys2Proof.Machine
end

