-- ==== Sys2Proof/Machine/Response.lean ====
section
/-! DEFINITION. What the caller reads (`10_state.md` R21 to R26, `70_reset_and_hazards.md` R207): `R_STATUS` and `R_FINFO` always,
a result register only while its flag is set. Reading changes nothing. -/

namespace Sys2Proof.Machine

/-- A result register's value if `flag` is set in `R_VALID`, else no value (R21). -/
def readIf {α : Type} (s : State) (flag : BitVec 4) (reg : ResultReg) (value : α) : Except Refusal α :=
  if s.rValid &&& flag = 0 then .error (.noValue reg) else .ok value

/-- Read `R_SNAP` (R25). -/
def readSnap (s : State) : Except Refusal Snapshot := readIf s vSnap .snap s.rSnap

/-- Read `R_TOUCH` (R23). -/
def readTouch (s : State) : Except Refusal (BitVec 2) := readIf s vTouch .touch s.rTouch

/-- Read `R_COUNT` (R22). -/
def readCount (s : State) : Except Refusal Byte := readIf s vCount .count s.rCount

/-- Read `R_NPTS` (R24). -/
def readNpts (s : State) : Except Refusal (BitVec 2) := readIf s vPts .npts s.rNpts

/-- Read `R_X[i]`: no value for `i >= R_NPTS` either (R24). -/
def readX (s : State) (i : Fin 2) : Except Refusal Screen :=
  if i.val < s.rNpts.toNat then readIf s vPts (.x i) s.rX[i] else .error (.noValue (.x i))

/-- Read `R_Y[i]`: no value for `i >= R_NPTS` either (R24). -/
def readY (s : State) (i : Fin 2) : Except Refusal Screen :=
  if i.val < s.rNpts.toNat then readIf s vPts (.y i) s.rY[i] else .error (.noValue (.y i))

/-- The sequence `[(R_X[i], R_Y[i]) for i < R_NPTS]` (R24). -/
def pairs (s : State) : List Point :=
  [(⟨s.rX[0], s.rY[0]⟩ : Point), ⟨s.rX[1], s.rY[1]⟩].take s.rNpts.toNat

/-- The response as it stands when `SEQ` is 0; while an operation is in progress there is none (R26, R206). -/
def response (s : State) : Option Response :=
  if s.seq = 0 then
    some
      { status := s.rStatus
        finfo := s.rFinfo
        snap := (readSnap s).toOption
        touch := (readTouch s).toOption
        count := (readCount s).toOption
        points := (readIf s vPts .npts (pairs s)).toOption }
  else none

end Sys2Proof.Machine
end

