-- ==== Sys2Proof/Machine/Run.lean ====
section
/-! DEFINITION. A run and its observable outcome (`70_reset_and_hazards.md` R206): the responses of its operations in order,
and the bus transactions in order. No state keeps the responses ("each acceptance invalidates the previous response"), so
the outcome is computed along the steps (log entry 19). -/

namespace Sys2Proof.Machine

/-- A command as the caller presents it: the word, and what the geometry port holds in that step. -/
structure Presentation where
  word : CmdWord
  geom : Geometry
  deriving DecidableEq, Repr

/-- A run (R206): the commands presented from a start state, with the draws the bus makes. -/
structure Run where
  start : State
  commands : List Presentation
  draws : List BusAnswer
  deriving DecidableEq, Repr

/-- What is seen of a run (R206). -/
structure RunOutcome where
  /-- The responses of the operations that ended, in order (R26). -/
  responses : List Response
  /-- The bus transactions issued, in order. -/
  transactions : List BusRequest
  /-- No request is outstanding: the last command's operation has ended. False of a run that contains a hang (R183). -/
  ended : Bool
  deriving DecidableEq, Repr

/-- In the coming step a word is presented to a block that is ready: an operation begins (R71). -/
def acceptsCommand (s : State) : Bool := s.seq == 0 && (presentedWord s).isSome

/-- The response that a step from `s` to `t` adds: one if an operation has begun and ended in it, else none (R206: an
operation that never ends has no result; a wait, an idle step and a reset are no operation). -/
def endedOperation (s t : State) : List Response := if acceptsCommand s then (response t).toList else []

/-- The transactions that a step from `s` to `t` adds. -/
def newTransactions (s t : State) : List BusRequest := t.traffic.drop s.traffic.length

/-- What is seen over `n` steps, whatever the pins do. -/
def observe : Nat → State → RunOutcome
  | 0, s => ⟨[], [], s.seq == 0⟩
  | n + 1, s =>
    match step s with
    | .next t =>
      { responses := endedOperation s t ++ (observe n t).responses
        transactions := newTransactions s t ++ (observe n t).transactions
        ended := (observe n t).ended }
    | .fault _ => ⟨[], [], false⟩
    | .refused _ => ⟨[], [], false⟩

/-- The pins of a step that presents a command. -/
def Presentation.pins (p : Presentation) : Inputs := ⟨false, some p.word, p.geom⟩

/-- The start state with the commands and the draws of the run in place. -/
def Run.initial (r : Run) : State :=
  { r.start with inputs := r.commands.map Presentation.pins, bus := r.draws }

/-- The observable outcome of a run (R206): one step for each command, since each operation is one step (R18). After a
hang the commands that follow are not accepted and have no outcome. -/
def Run.outcome (r : Run) : RunOutcome := observe r.commands.length r.initial

end Sys2Proof.Machine
end

