-- ==== Sys2Proof/Safety.lean ====
section
/-! DEFINITION. The words the statements use: what a legal state of the block is, the state and the bus answer after some of
an operation's reads, and how many bus transactions an operation makes. -/

namespace Sys2Proof.Machine

/-- A legal state: what the rules say of the registers together, whatever has run. -/
structure State.Inv (s : State) : Prop where
  /-- "Codes 0x07..0xFF never occur" (R170). -/
  status_known : s.rStatus ≤ 0x06
  /-- After a success `R_FINFO` is 0 (R20). -/
  info_ok : s.rStatus = 0x00 → s.rFinfo = 0
  /-- ILLEGAL_COMMAND carries a word that is no command (R170). -/
  info_illegal : s.rStatus = 0x01 → ∀ i, decode s.rFinfo ≠ .ok i
  /-- NOT_CONSTRUCTED carries 0, and nothing has been constructed since (R170). -/
  info_notConstructed : s.rStatus = 0x02 → s.rFinfo = 0 ∧ s.constructed = false
  /-- ALREADY_CONSTRUCTED carries 0 (R170). -/
  info_alreadyConstructed : s.rStatus = 0x03 → s.rFinfo = 0 ∧ s.constructed = true
  /-- OFFSET_INVALID carries an offset that is not valid (R170). -/
  info_offset : s.rStatus = 0x04 →
    s.constructed = true ∧ ∃ off, s.rFinfo = off.setWidth 24 ∧ offsetValid s.params off = false
  /-- TRANSPORT_FAILURE carries the index 1, 2 or 3 (R170), only 1 under `single` (R18). -/
  info_transport : s.rStatus = 0x05 →
    s.constructed = true ∧ 1 ≤ s.rFinfo ∧ s.rFinfo ≤ 3 ∧ (s.params.snapPolicy = .single → s.rFinfo = 1)
  /-- ROTATION_INVALID carries the captured angle, which is none of the four (R170, R13). -/
  info_rotation : s.rStatus = 0x06 →
    s.constructed = true ∧ s.rFinfo = s.rot.setWidth 24 ∧ rotSelect s.rot = none
  /-- At most one result flag is set (R21). -/
  valid_one : s.rValid = 0 ∨ s.rValid = vSnap ∨ s.rValid = vTouch ∨ s.rValid = vCount ∨ s.rValid = vPts
  /-- A flag is set only by an operation that has succeeded, hence with the driver constructed and the block idle (R21). -/
  valid_success : s.rValid ≠ 0 → s.rStatus = 0x00 ∧ s.seq = 0 ∧ s.constructed = true
  /-- Only a constructed driver issues a bus request (R173). -/
  busy_constructed : s.seq ≠ 0 → s.constructed = true
  /-- Under `single` no operation makes a second request (R18). -/
  busy_single : s.params.snapPolicy = .single → s.seq ≤ 1
  /-- `R_NPTS`: "3 never occurs" (R24). -/
  npts_range : s.rNpts ≤ 2

/-- `s` after an operation has issued its first `n` snapshot reads and used up their answers. -/
def State.readsDone (s : State) (n : Nat) : State :=
  { s with traffic := s.traffic ++ List.replicate n snapshotRequest, bus := s.bus.drop n }

/-- `s` with the bus scripted to answer the coming requests so. -/
def State.withBus (s : State) (answers : List BusAnswer) : State := { s with bus := answers }

/-- `s` on an implementation with the other `SNAP_POLICY`. -/
def State.withPolicy (s : State) (policy : SnapPolicy) : State :=
  { s with params := { s.params with snapPolicy := policy } }

/-- The answer to an operation's snapshot read after `n` earlier ones. -/
def replyAfter (n : Nat) (s : State) : Reply Snapshot := snapshotReply (s.readsDone n)

/-- Two snapshots alike in all that TOUCHED, COUNT and POINTS interpret: nine bytes, of the high-X bytes all but bits 5..4, of
the high-Y bytes bits 3..0 (R45). -/
def SameInterpreted (S S' : Snapshot) : Prop :=
  S[0x02] = S'[0x02] ∧
  S[0x03] &&& 0xCF#8 = S'[0x03] &&& 0xCF#8 ∧ S[0x04] = S'[0x04] ∧
  S[0x05] &&& 0x0F#8 = S'[0x05] &&& 0x0F#8 ∧ S[0x06] = S'[0x06] ∧
  S[0x09] &&& 0xCF#8 = S'[0x09] &&& 0xCF#8 ∧ S[0x0A] = S'[0x0A] ∧
  S[0x0B] &&& 0x0F#8 = S'[0x0B] &&& 0x0F#8 ∧ S[0x0C] = S'[0x0C]

/-- Two answers of the bus that are the same, or two snapshots alike in the sense `same`. -/
def AnswersAgree (same : Snapshot → Snapshot → Prop) (a a' : BusAnswer) : Prop :=
  a = a' ∨ ∃ S S', a = .ok S.toList ∧ a' = .ok S'.toList ∧ same S S'

/-- Two states alike in every field but the answers the bus has left. -/
def SameButBus (t t' : State) : Prop := t' = t.withBus t'.bus

/-- Two outcomes that are next states alike in every field but the answers the bus has left. -/
def AgreeButBus (o o' : Host.Outcome State Fault Refusal) : Prop :=
  ∃ t t', o = .next t ∧ o' = .next t' ∧ SameButBus t t'

/-- The count byte TD_STATUS of the first snapshot, where the bus answers it with one. -/
def firstCount (s : State) : Byte :=
  match replyAfter 0 s with
  | .answered S => S[0x02]
  | .failed => 0
  | .never => 0

/-- The number of bus transactions of a successful operation, the table of R18; `n` is POINTS's count. -/
def transactions : SnapPolicy → Instr → Byte → Nat
  | _, .init, _ => 0
  | _, .wrreg _ _, _ => 1
  | _, .rdsnap, _ => 1
  | .single, .touched, _ => 1
  | .perStep, .touched, _ => 2
  | _, .count, _ => 1
  | .single, .points, _ => 1
  | .perStep, .points, n => if n = 0 then 1 else if n = 1 then 2 else 3

/-- The first request a command issues once it has passed its tests: none for INIT (R103, R104, R120). -/
def firstRequest : Instr → Option BusRequest
  | .init => none
  | .wrreg off val => some (writeRequest off val)
  | .rdsnap => some snapshotRequest
  | .touched => some snapshotRequest
  | .count => some snapshotRequest
  | .points => some snapshotRequest

end Sys2Proof.Machine
end

