-- ==== Sys2Proof/Certificates/Slice0/Obligations.lean ====
section
/-! DEFINITION. The statements for the provers. Each docstring names the rules a statement rests on. A raw register that a
command leaves alone is stated unchanged even where its flag is clear and the spec says it "holds no value" (R21): that it
keeps its old bits there is the model's choice (log entry 7); what a caller can read is stated apart. -/

open Sys2Proof Sys2Proof.Machine

/-! ## Encoding -/

/-- Every command, with every operand, decodes back from its word (R72, R73). -/
def Obligations.DecodeOfEncode : Prop :=
  ∀ i : Instr, decode (encode i) = .ok i

/-- R72's match and mask list, word by word: each command's words are the ones listed and no others. -/
def Obligations.DecodeByMatchAndMask : Prop :=
  ∀ w : CmdWord,
    (decode w = .ok .init ↔ w = 0x010000) ∧
    ((∃ off val, decode w = .ok (.wrreg off val)) ↔ w &&& 0xFF0000 = 0x020000) ∧
    (decode w = .ok .rdsnap ↔ w = 0x030000) ∧
    (decode w = .ok .touched ↔ w = 0x040000) ∧
    (decode w = .ok .count ↔ w = 0x050000) ∧
    (decode w = .ok .points ↔ w = 0x060000)

/-- The decoder is total and rejects exactly the illegal words (R74, R73): every word it accepts is the word of the command
it gives, and it rejects a word exactly when the opcode is unassigned, or is not WRREG's and operand bits are set. -/
def Obligations.EveryWordIsOneCommandOrIllegal : Prop :=
  (∀ w i, decode w = .ok i → encode i = w) ∧
  ∀ w : CmdWord,
    (∃ e, decode w = .error e) ↔
      ((w >>> 16).toNat = 0x00 ∨ 0x07 ≤ (w >>> 16).toNat) ∨
        ((w >>> 16).toNat ≠ 0x02 ∧ w &&& 0x00FFFF ≠ 0)

/-- Words written out in the spec (R83 and `95_test_vectors.md` 2.1) decode to the commands they stand for. -/
def Obligations.SpecWordsDecode : Prop :=
  decode 0x010000 = .ok .init ∧ decode 0x028028 = .ok (.wrreg 0x80 0x28) ∧
  decode 0x02BCFF = .ok (.wrreg 0xBC 0xFF) ∧ decode 0x030000 = .ok .rdsnap ∧
  decode 0x040000 = .ok .touched ∧ decode 0x050000 = .ok .count ∧ decode 0x060000 = .ok .points ∧
  decode 0x000000 = .error .unassignedOpcode ∧ decode 0x060001 = .error .operandBitsSet

/-! ## The step, its pins, and reset -/

/-- A step in which the reset input is not asserted and the port holds the word of a command is that command's run, on the
state that has taken the pins (R71, R15). How the pins of a step are given and taken is the model's choice (log entry 4). -/
def Obligations.StepRunsThePresentedCommand : Prop :=
  ∀ (s : State) (p : Inputs) (rest : List Inputs) (w : CmdWord) (i : Instr),
    s.inputs = p :: rest → p.reset = false → p.cmd = some w → decode w = .ok i →
    step s = exec i { s with inputs := rest, geomPort := p.geom }

/-- An accepted word that is no command ends at once with ILLEGAL_COMMAND and the word as information: no bus transaction,
no change to `CONSTRUCTED` or geometry, whatever the lifecycle state (R74, first test of R173). That the raw result registers
keep their bits is the model's choice (log entry 7). -/
def Obligations.IllegalWordFaultsAtOnce : Prop :=
  ∀ (s : State) (p : Inputs) (rest : List Inputs) (w : CmdWord) (e : Illegal),
    s.inputs = p :: rest → p.reset = false → p.cmd = some w → decode w = .error e → s.seq = 0 →
    step s = .next { s with
      inputs := rest, geomPort := p.geom, rValid := 0b0000, rStatus := 0x01, rFinfo := w }

/-- While an operation is in progress a presented word, legal or not, is not accepted and has no effect (R71). -/
def Obligations.BusyBlockAcceptsNothing : Prop :=
  ∀ (s : State) (p : Inputs) (rest : List Inputs),
    s.inputs = p :: rest → p.reset = false → s.seq ≠ 0 →
    step s = .next { s with inputs := rest, geomPort := p.geom }

/-- An idle block to which nothing is presented does nothing on its own (R203), and neither does a block whose pins are at
rest, in any phase; in particular right after reset. That pins with no element left are at rest is the model's choice (log
entry 4). -/
def Obligations.NothingPresentedNothingDone : Prop :=
  (∀ (s : State) (p : Inputs) (rest : List Inputs),
    s.inputs = p :: rest → p.reset = false → p.cmd = none →
    step s = .next { s with inputs := rest, geomPort := p.geom }) ∧
  ∀ s : State, s.inputs = [] → step s = .next s

/-- Asserting reset, in any phase and whatever the port holds: the registers take R31's values, every result register and
so every read of one has no value, and no bus transaction is issued (R200, R201, R202). That the reset input overrides a
word presented in the same step is the model's choice (log entry 10). -/
def Obligations.ResetFromAnyPhase : Prop :=
  ∀ (s : State) (p : Inputs) (rest : List Inputs), s.inputs = p :: rest → p.reset = true →
    ∃ t, step s = .next t ∧
      t.constructed = false ∧ t.seq = 0 ∧ t.rStatus = 0x00 ∧ t.rFinfo = 0 ∧ t.rValid = 0b0000 ∧
      readSnap t = .error (.noValue .snap) ∧ readTouch t = .error (.noValue .touch) ∧
      readCount t = .error (.noValue .count) ∧ readNpts t = .error (.noValue .npts) ∧
      (∀ k, readX t k = .error (.noValue (.x k))) ∧ (∀ k, readY t k = .error (.noValue (.y k))) ∧
      t.traffic = s.traffic ∧ t.bus = s.bus ∧ t.params = s.params ∧ t.inputs = rest ∧ t.geomPort = p.geom

/-- The reset state has the values R31 gives, and no request outstanding. -/
def Obligations.ResetStateValues : Prop :=
  State.reset.constructed = false ∧ State.reset.seq = 0 ∧ State.reset.rStatus = 0x00 ∧
  State.reset.rFinfo = 0 ∧ State.reset.rValid = 0b0000 ∧ State.reset.traffic = []

/-! ## INIT and WRREG -/

/-- INIT (R101): its encoding; it captures the geometry port, any three values, and succeeds without a bus transaction while
the driver is not constructed; once it is, it faults ALREADY_CONSTRUCTED and the captured geometry stays. That the raw result
registers, whose flags are cleared, keep their bits is the model's choice (log entry 7). -/
def Obligations.InitCapturesGeometryOnce : Prop :=
  encode .init = 0x010000 ∧
  ∀ s : State, s.seq = 0 →
    (s.constructed = false →
      exec .init s = .next { s with
        rot := s.geomPort.rot, width := s.geomPort.width, height := s.geomPort.height, constructed := true,
        rValid := 0b0000, rStatus := 0x00, rFinfo := 0 }) ∧
    (s.constructed = true →
      exec .init s = .next { s with rValid := 0b0000, rStatus := 0x03, rFinfo := 0 })

/-- WRREG (R104): its encoding; the lifecycle test, then the offset test, then exactly one one-byte write to device 0x38,
whose answer decides between success and TRANSPORT_FAILURE(1). A write that is never answered leaves the block waiting in
phase 1 with `R_STATUS` as before (R183, R19; log entries 3 and 16). That the raw result registers, whose flags are cleared,
keep their bits is the model's choice (log entry 7). -/
def Obligations.WrregWritesOneByte : Prop :=
  ∀ off val : Byte,
    decode (0x020000 ||| (off.setWidth 24 <<< 8) ||| val.setWidth 24) = .ok (.wrreg off val) ∧
    ∀ s : State, s.seq = 0 →
      (s.constructed = false →
        exec (.wrreg off val) s = .next { s with rValid := 0b0000, rStatus := 0x02, rFinfo := 0 }) ∧
      (s.constructed = true → offsetValid s.params off = false →
        exec (.wrreg off val) s = .next { s with rValid := 0b0000, rStatus := 0x04, rFinfo := off.setWidth 24 }) ∧
      (s.constructed = true → offsetValid s.params off = true →
        (writtenReply off val s = .answered () →
          exec (.wrreg off val) s = .next { s with
            rValid := 0b0000, rStatus := 0x00, rFinfo := 0,
            traffic := s.traffic ++ [.write 0x38 off [val]], bus := s.bus.tail }) ∧
        (writtenReply off val s = .failed →
          exec (.wrreg off val) s = .next { s with
            rValid := 0b0000, rStatus := 0x05, rFinfo := 1,
            traffic := s.traffic ++ [.write 0x38 off [val]], bus := s.bus.tail }) ∧
        (writtenReply off val s = .never →
          exec (.wrreg off val) s = .next { s with
            rValid := 0b0000, seq := 1,
            traffic := s.traffic ++ [.write 0x38 off [val]], bus := s.bus.tail }))

/-- The default `VALID_OFFSETS` is 0x00..0xBC (R105, R5); `ValidOffsetsAreTheRanges` says it of every choice. -/
def Obligations.DefaultValidOffsets : Prop :=
  ∀ off : Byte, offsetValid defaultParams off = true ↔ off.toNat ≤ 0xBC

/-! ## RDSNAP, TOUCHED, COUNT -/

/-- RDSNAP (R121): one snapshot copied whole to `R_SNAP`, under both policies, and its faults. That the other raw result
registers, and after a fault `R_SNAP` itself, keep their bits is the model's choice (log entry 7). -/
def Obligations.RdsnapCopiesTheSnapshot : Prop :=
  encode .rdsnap = 0x030000 ∧
  ∀ s : State, s.seq = 0 →
    (s.constructed = false →
      exec .rdsnap s = .next { s with rValid := 0b0000, rStatus := 0x02, rFinfo := 0 }) ∧
    (s.constructed = true →
      (∀ S, replyAfter 0 s = .answered S →
        exec .rdsnap s = .next { s.readsDone 1 with
          rSnap := S, rValid := 0b0001, rStatus := 0x00, rFinfo := 0 }) ∧
      (replyAfter 0 s = .failed →
        exec .rdsnap s = .next { s.readsDone 1 with rValid := 0b0000, rStatus := 0x05, rFinfo := 1 }))

/-- TOUCHFLAG and the pair it goes into (R122, R23): not touched exactly when the byte is 0xC0 or more; bit 0 of `R_TOUCH`
is slot 1 and bit 1 slot 2. -/
def Obligations.TouchFlagIsTheSentinelTest : Prop :=
  (∀ xh : Byte, (touchFlag xh = false ↔ xh >>> 6 = 0b11) ∧ (touchFlag xh = false ↔ 0xC0 ≤ xh.toNat)) ∧
  ∀ t1 t2 : Bool, (touchPair t1 t2).getLsbD 0 = t1 ∧ (touchPair t1 t2).getLsbD 1 = t2

/-- TOUCHED (R123, R124). Under `single` both flags come from the high-X bytes of one snapshot; under `per_step` slot 1 from
a first snapshot and slot 2 from a second, and if the second read fails the first flag is discarded; with the faults of each,
and the wait for an answer that never comes (R183, R19; log entries 3 and 16). That raw result registers under a clear flag
keep their bits is the model's choice (log entry 7). -/
def Obligations.TouchedFromTheHighXBytes : Prop :=
  encode .touched = 0x040000 ∧
  ∀ s : State, s.seq = 0 →
    (s.constructed = false →
      exec .touched s = .next { s with rValid := 0b0000, rStatus := 0x02, rFinfo := 0 }) ∧
    (s.constructed = true →
      (replyAfter 0 s = .failed →
        exec .touched s = .next { s.readsDone 1 with rValid := 0b0000, rStatus := 0x05, rFinfo := 1 }) ∧
      (∀ S, replyAfter 0 s = .answered S → s.params.snapPolicy = .single →
        exec .touched s = .next { s.readsDone 1 with
          rTouch := touchPair (touchFlag S[0x03]) (touchFlag S[0x09]),
          rValid := 0b0010, rStatus := 0x00, rFinfo := 0 }) ∧
      (∀ Sa, replyAfter 0 s = .answered Sa → s.params.snapPolicy = .perStep →
        (replyAfter 1 s = .failed →
          exec .touched s = .next { s.readsDone 2 with rValid := 0b0000, rStatus := 0x05, rFinfo := 2 }) ∧
        (replyAfter 1 s = .never →
          exec .touched s = .next { s.readsDone 2 with rValid := 0b0000, seq := 2 }) ∧
        (∀ Sb, replyAfter 1 s = .answered Sb →
          exec .touched s = .next { s.readsDone 2 with
            rTouch := touchPair (touchFlag Sa[0x03]) (touchFlag Sb[0x09]),
            rValid := 0b0010, rStatus := 0x00, rFinfo := 0 })))

/-- COUNT (R125, R126): the whole TD_STATUS byte, any of 256 values, under both policies, and its faults. That the other raw
result registers, and after a fault `R_COUNT` itself, keep their bits is the model's choice (log entry 7). -/
def Obligations.CountReturnsTheRawByte : Prop :=
  encode .count = 0x050000 ∧
  ∀ s : State, s.seq = 0 →
    (s.constructed = false →
      exec .count s = .next { s with rValid := 0b0000, rStatus := 0x02, rFinfo := 0 }) ∧
    (s.constructed = true →
      (∀ S, replyAfter 0 s = .answered S →
        exec .count s = .next { s.readsDone 1 with
          rCount := S[0x02], rValid := 0b0100, rStatus := 0x00, rFinfo := 0 }) ∧
      (replyAfter 0 s = .failed →
        exec .count s = .next { s.readsDone 1 with rValid := 0b0000, rStatus := 0x05, rFinfo := 1 }))

/-! ## POINTS and the rotation -/

/-- COORD12 (R140). -/
def Obligations.CoordinateAssembly : Prop :=
  ∀ high low : Byte,
    (coord12 high low).toNat = 256 * (high.toNat % 16) + low.toNat ∧
    coord12 high low = ((high &&& 0x0F).setWidth 12 <<< 8) ||| low.setWidth 12

/-- Laws of COORD12: range, the extremes, no sign, and bits 7..4 of the high byte never matter: the inferences (b), (c) and
(e) that R141 draws from R140 and marks as derived. -/
def Obligations.CoordinateLaws : Prop :=
  ∀ high low : Byte,
    (coord12 high low).toNat ≤ 4095 ∧ coord12 high low = coord12 (high &&& 0x0F) low ∧
    0 ≤ ((coord12 high low).setWidth 32).toInt ∧
    ((coord12 high low).toNat = 4095 ↔ high.toNat % 16 = 15 ∧ low = 0xFF) ∧
    (coord12 high low = 0 ↔ high.toNat % 16 = 0 ∧ low = 0)

/-- RAWPOINT (R142): the four bytes of each slot. -/
def Obligations.RawPointBytes : Prop :=
  ∀ S : Snapshot,
    rawPoint S .slot1 = ⟨coord12 S[0x03] S[0x04], coord12 S[0x05] S[0x06]⟩ ∧
    rawPoint S .slot2 = ⟨coord12 S[0x09] S[0x0A], coord12 S[0x0B] S[0x0C]⟩

/-- The rotation table as integers (R143), for each of the four angles and no other (R13), on all i32 arguments: every entry
is the table's difference, read modulo 2^32. -/
def Obligations.RotationTable : Prop :=
  (∀ rot : Geom16, (rotSelect rot).isSome ↔ rot = 0 ∨ rot = 90 ∨ rot = 180 ∨ rot = 270) ∧
  ∀ (r : Rotation) (w h : Screen) (p : Point),
    (rotSelect 0 = some r → rotate r w h p = p) ∧
    (rotSelect 90 = some r →
      (rotate r w h p).x.toInt = (h.toInt - p.y.toInt).bmod (2 ^ 32) ∧ (rotate r w h p).y = p.x) ∧
    (rotSelect 180 = some r →
      (rotate r w h p).x.toInt = (w.toInt - p.x.toInt).bmod (2 ^ 32) ∧
      (rotate r w h p).y.toInt = (h.toInt - p.y.toInt).bmod (2 ^ 32)) ∧
    (rotSelect 270 = some r →
      (rotate r w h p).x = p.y ∧ (rotate r w h p).y.toInt = (w.toInt - p.x.toInt).bmod (2 ^ 32))

/-- In the pipeline no subtraction wraps (an inference that R146 marks as derived): with captured dimensions and raw coordinates every result is the exact
integer of the table, in -4095..65535. -/
def Obligations.PipelineIsExact : Prop :=
  ∀ (r : Rotation) (w h : Geom16) (p : RawPoint),
    let q := rotate r (w.setWidth 32) (h.setWidth 32) p.widen
    let x : Int := p.x.toNat
    let y : Int := p.y.toNat
    (q.x.toInt, q.y.toInt) =
      (match r with
       | .deg0 => (x, y)
       | .deg90 => (h.toNat - y, x)
       | .deg180 => (w.toNat - x, h.toNat - y)
       | .deg270 => (y, w.toNat - x)) ∧
    -4095 ≤ q.x.toInt ∧ q.x.toInt ≤ 65535 ∧ -4095 ≤ q.y.toInt ∧ q.y.toInt ≤ 65535

/-- Rotation laws (R147): 0 degrees is the identity, 180 twice is the identity, and 90 then 270 gives
(x, width - height + y), which is (x, y) only on a square panel (the last an inference that R147 marks as derived). -/
def Obligations.RotationLaws : Prop :=
  ∀ (w h : Screen) (p : Point),
    rotate .deg0 w h p = p ∧
    rotate .deg180 w h (rotate .deg180 w h p) = p ∧
    rotate .deg270 w h (rotate .deg90 w h p) = ⟨p.x, w - h + p.y⟩ ∧
    (rotate .deg270 w h (rotate .deg90 w h p) = p ↔ w = h)

/-- POINTS under `single` (R148, R150, R153): the count of the one snapshot decides; an invalid rotation faults only when a
point would be rotated; each pair is ROTATE of the captured angle, width and height on the slot's raw point (R143, R145).
That `R_X[1]`, `R_Y[1]` after one pair, and every raw result register under a clear flag, keep their bits is the model's
choice (log entry 7). -/
def Obligations.PointsFromOneSnapshot : Prop :=
  encode .points = 0x060000 ∧
  ∀ s : State, s.seq = 0 → s.params.snapPolicy = .single →
    (s.constructed = false →
      exec .points s = .next { s with rValid := 0b0000, rStatus := 0x02, rFinfo := 0 }) ∧
    (s.constructed = true →
      (replyAfter 0 s = .failed →
        exec .points s = .next { s.readsDone 1 with rValid := 0b0000, rStatus := 0x05, rFinfo := 1 }) ∧
      (∀ S, replyAfter 0 s = .answered S →
        (S[0x02] = 0 →
          exec .points s = .next { s.readsDone 1 with
            rNpts := 0, rValid := 0b1000, rStatus := 0x00, rFinfo := 0 }) ∧
        (1 ≤ S[0x02].toNat → rotSelect s.rot = none →
          exec .points s = .next { s.readsDone 1 with
            rValid := 0b0000, rStatus := 0x06, rFinfo := s.rot.setWidth 24 }) ∧
        (S[0x02] = 1 → ∀ r, rotSelect s.rot = some r →
          exec .points s = .next { s.readsDone 1 with
            rNpts := 1,
            rX := #v[(rotate r (s.width.setWidth 32) (s.height.setWidth 32) (rawPoint S .slot1).widen).x, s.rX[1]],
            rY := #v[(rotate r (s.width.setWidth 32) (s.height.setWidth 32) (rawPoint S .slot1).widen).y, s.rY[1]],
            rValid := 0b1000, rStatus := 0x00, rFinfo := 0 }) ∧
        (2 ≤ S[0x02].toNat → ∀ r, rotSelect s.rot = some r →
          exec .points s = .next { s.readsDone 1 with
            rNpts := 2,
            rX := #v[
              (rotate r (s.width.setWidth 32) (s.height.setWidth 32) (rawPoint S .slot1).widen).x,
              (rotate r (s.width.setWidth 32) (s.height.setWidth 32) (rawPoint S .slot2).widen).x],
            rY := #v[
              (rotate r (s.width.setWidth 32) (s.height.setWidth 32) (rawPoint S .slot1).widen).y,
              (rotate r (s.width.setWidth 32) (s.height.setWidth 32) (rawPoint S .slot2).widen).y],
            rValid := 0b1000, rStatus := 0x00, rFinfo := 0 })))

/-- POINTS under `per_step` (R149, R152, R153): count from the first snapshot only, point 1 from the second, point 2 from the
third, each pair as ROTATE gives it (R143, R145); the rotation is tested after the second; a later failure discards
everything; a read that is never answered leaves the block in its phase (R183, R19; log entries 3 and 16). That `R_X[1]`,
`R_Y[1]` after one pair, and every raw result register under a clear flag, keep their bits is the model's choice (log
entry 7). -/
def Obligations.PointsFromUpToThreeSnapshots : Prop :=
  ∀ s : State, s.seq = 0 → s.params.snapPolicy = .perStep →
    (s.constructed = false →
      exec .points s = .next { s with rValid := 0b0000, rStatus := 0x02, rFinfo := 0 }) ∧
    (s.constructed = true →
      (replyAfter 0 s = .failed →
        exec .points s = .next { s.readsDone 1 with rValid := 0b0000, rStatus := 0x05, rFinfo := 1 }) ∧
      (∀ Sa, replyAfter 0 s = .answered Sa →
        (Sa[0x02] = 0 →
          exec .points s = .next { s.readsDone 1 with
            rNpts := 0, rValid := 0b1000, rStatus := 0x00, rFinfo := 0 }) ∧
        (1 ≤ Sa[0x02].toNat →
          (replyAfter 1 s = .failed →
            exec .points s = .next { s.readsDone 2 with rValid := 0b0000, rStatus := 0x05, rFinfo := 2 }) ∧
          (replyAfter 1 s = .never →
            exec .points s = .next { s.readsDone 2 with rValid := 0b0000, seq := 2 }) ∧
          (∀ Sb, replyAfter 1 s = .answered Sb →
            (rotSelect s.rot = none →
              exec .points s = .next { s.readsDone 2 with
                rValid := 0b0000, rStatus := 0x06, rFinfo := s.rot.setWidth 24 }) ∧
            (∀ r, rotSelect s.rot = some r →
              (Sa[0x02] = 1 →
                exec .points s = .next { s.readsDone 2 with
                  rNpts := 1,
                  rX := #v[(rotate r (s.width.setWidth 32) (s.height.setWidth 32) (rawPoint Sb .slot1).widen).x, s.rX[1]],
                  rY := #v[(rotate r (s.width.setWidth 32) (s.height.setWidth 32) (rawPoint Sb .slot1).widen).y, s.rY[1]],
                  rValid := 0b1000, rStatus := 0x00, rFinfo := 0 }) ∧
              (2 ≤ Sa[0x02].toNat →
                (replyAfter 2 s = .failed →
                  exec .points s = .next { s.readsDone 3 with
                    rValid := 0b0000, rStatus := 0x05, rFinfo := 3 }) ∧
                (replyAfter 2 s = .never →
                  exec .points s = .next { s.readsDone 3 with rValid := 0b0000, seq := 3 }) ∧
                (∀ Sc, replyAfter 2 s = .answered Sc →
                  exec .points s = .next { s.readsDone 3 with
                    rNpts := 2,
                    rX := #v[
                      (rotate r (s.width.setWidth 32) (s.height.setWidth 32) (rawPoint Sb .slot1).widen).x,
                      (rotate r (s.width.setWidth 32) (s.height.setWidth 32) (rawPoint Sc .slot2).widen).x],
                    rY := #v[
                      (rotate r (s.width.setWidth 32) (s.height.setWidth 32) (rawPoint Sb .slot1).widen).y,
                      (rotate r (s.width.setWidth 32) (s.height.setWidth 32) (rawPoint Sc .slot2).widen).y],
                    rValid := 0b1000, rStatus := 0x00, rFinfo := 0 })))))))

/-! ## The bus -/

/-- How each answer of the bus to a snapshot read is taken (R46, R51): exactly 189 bytes are a snapshot with byte `i` at
offset `i`; any other number of bytes is a failure; failure is failure; never is never. -/
def Obligations.SnapshotAnswerLength : Prop :=
  ∀ bytes : List Byte,
    (∀ h : bytes.length = 189,
      ∃ S, asSnapshot (.ok bytes) = .answered S ∧ ∀ k (hk : k < 189), S[k] = bytes[k]) ∧
    (bytes.length ≠ 189 → asSnapshot (.ok bytes) = .failed) ∧
    asSnapshot .failure = .failed ∧ asSnapshot .never = .never

/-- Every request of a command is a read of the whole block or WRREG's own one-byte write to a valid offset, at device 0x38
(R48, R50, R52, R106); a command makes at most three (R17), appends them to those issued before, and uses up that many
answers. -/
def Obligations.OnlyWholeReadsAndOneByteWrites : Prop :=
  ∀ (i : Instr) (s t : State), exec i s = .next t →
    ∃ new, t.traffic = s.traffic ++ new ∧ new.length ≤ 3 ∧ t.bus = s.bus.drop new.length ∧
      ∀ r ∈ new, (r = .read 0x38 0x00 189 ∧ i ≠ .init ∧ ∀ off val, i ≠ .wrreg off val) ∨
        ∃ off val, i = .wrreg off val ∧ offsetValid s.params off = true ∧ r = .write 0x38 off [val]

/-- The number of bus transactions of a successful operation is the one in R18's table. -/
def Obligations.TransactionsOfASuccess : Prop :=
  ∀ (i : Instr) (s t : State), s.seq = 0 → exec i s = .next t → t.seq = 0 → t.rStatus = 0x00 →
    t.traffic.length = s.traffic.length + transactions s.params.snapPolicy i (firstCount s)

/-- A first request that is never answered hangs the block in phase 1, with no result and no status written (R183, R19; log
entries 3 and 16). That the raw result registers keep their bits is the model's choice (log entry 7). -/
def Obligations.UnansweredRequestHangs : Prop :=
  ∀ (i : Instr) (s : State) (r : BusRequest), s.seq = 0 → s.constructed = true → firstRequest i = some r →
    (∀ off val, i = .wrreg off val → offsetValid s.params off = true) → s.answerTo r = .never →
    exec i s = .next { s with
      seq := 1, rValid := 0b0000, traffic := s.traffic ++ [r], bus := s.bus.tail }

/-- A hang lasts: over any number of steps in which reset is not asserted, whatever words are presented, nothing in the
block changes and no further request is issued (R183; log entry 3). -/
def Obligations.HangLastsUntilReset : Prop :=
  ∀ (n : Nat) (s : State), s.seq ≠ 0 → (∀ p ∈ s.inputs.take n, p.reset = false) →
    ∃ t, Sys2Proof.core.run n s = .next t ∧
      t = { s with inputs := s.inputs.drop n, geomPort := t.geomPort }

/-! ## Faults, flags and frames -/

/-- NOT_CONSTRUCTED comes before every other test of the five commands, and no bus transaction is made (R173, R120 (a)).
That the raw result registers keep their bits is the model's choice (log entry 7). -/
def Obligations.NotConstructedComesFirst : Prop :=
  ∀ (i : Instr) (s : State), i ≠ .init → s.seq = 0 → s.constructed = false →
    exec i s = .next { s with rValid := 0b0000, rStatus := 0x02, rFinfo := 0 }

/-- The three ends of an accepted command (R19, R20, R21): success with status 0, information 0 and exactly the command's own
flag; a fault with one of the five codes and no flag; or a wait, with no flag and the status registers not yet written (log
entries 3 and 16). -/
def Obligations.EveryCommandEndsOrWaits : Prop :=
  ∀ (i : Instr) (s : State), s.seq = 0 → ∃ t, exec i s = .next t ∧
    ((t.seq = 0 ∧ t.rStatus = 0x00 ∧ t.rFinfo = 0 ∧ t.rValid = resultFlag i) ∨
     (t.seq = 0 ∧ 0x02 ≤ t.rStatus ∧ t.rStatus ≤ 0x06 ∧ t.rValid = 0b0000) ∨
     (t.seq ≠ 0 ∧ t.rStatus = s.rStatus ∧ t.rFinfo = s.rFinfo ∧ t.rValid = 0b0000))

/-- A command that has not succeeded has written no result and changed no lifecycle or geometry state (R174, R176, R152): its
state differs from the one before only in the status registers, the flags, the phase, and the bus. That the raw result
registers keep their bits is the model's choice (log entry 7). -/
def Obligations.FaultsAreAllOrNothing : Prop :=
  ∀ (i : Instr) (s t : State), s.seq = 0 → exec i s = .next t → ¬ (t.seq = 0 ∧ t.rStatus = 0x00) →
    t = { s with
      seq := t.seq, rStatus := t.rStatus, rFinfo := t.rFinfo, rValid := 0b0000,
      traffic := t.traffic, bus := t.bus }

/-- The frame of each command (R10, columns "written by"): a result register is written only by its command, the lifecycle
and geometry registers only by INIT, the bus is touched only by the other five, and no command touches the parameters or
the pins. Of raw registers under a clear flag this is the model's choice (log entry 7). -/
def Obligations.CommandFrames : Prop :=
  ∀ (i : Instr) (s t : State), exec i s = .next t →
    (i ≠ .rdsnap → t.rSnap = s.rSnap) ∧ (i ≠ .touched → t.rTouch = s.rTouch) ∧
    (i ≠ .count → t.rCount = s.rCount) ∧
    (i ≠ .points → t.rNpts = s.rNpts ∧ t.rX = s.rX ∧ t.rY = s.rY) ∧
    (i ≠ .init → t.constructed = s.constructed ∧ t.rot = s.rot ∧ t.width = s.width ∧ t.height = s.height) ∧
    (i = .init → t.traffic = s.traffic ∧ t.bus = s.bus) ∧
    t.params = s.params ∧ t.inputs = s.inputs ∧ t.geomPort = s.geomPort

/-- `CONSTRUCTED` goes from 0 to 1 by an accepted INIT and from 1 to 0 by reset, and by nothing else (R11, R180). -/
def Obligations.LifecycleOnlyByInitAndReset : Prop :=
  ∀ s t : State, step s = .next t → t.constructed ≠ s.constructed →
    (s.constructed = false ∧ s.seq = 0 ∧ presentedWord s = some 0x010000) ∨
    (s.constructed = true ∧ resetAsserted s = true)

/-- Captured geometry is what it was at INIT until reset, whatever the geometry port carries and whatever runs (R12). -/
def Obligations.GeometryIsCaptured : Prop :=
  ∀ s t : State, step s = .next t → s.constructed = true → resetAsserted s = false →
    t.constructed = true ∧ t.rot = s.rot ∧ t.width = s.width ∧ t.height = s.height

/-- A result register whose flag is clear cannot be read, and one whose flag is set reads as the register; of the pairs only
those below `R_NPTS` (R21, R24). -/
def Obligations.ReadsNeedTheirFlag : Prop :=
  ∀ s : State,
    (readSnap s = if s.rValid.getLsbD 0 then .ok s.rSnap else .error (.noValue .snap)) ∧
    (readTouch s = if s.rValid.getLsbD 1 then .ok s.rTouch else .error (.noValue .touch)) ∧
    (readCount s = if s.rValid.getLsbD 2 then .ok s.rCount else .error (.noValue .count)) ∧
    (readNpts s = if s.rValid.getLsbD 3 then .ok s.rNpts else .error (.noValue .npts)) ∧
    ∀ k : Fin 2,
      (readX s k = if s.rValid.getLsbD 3 ∧ k.val < s.rNpts.toNat then .ok s.rX[k] else .error (.noValue (.x k))) ∧
      (readY s k = if s.rValid.getLsbD 3 ∧ k.val < s.rNpts.toNat then .ok s.rY[k] else .error (.noValue (.y k)))

/-- Once a command has been accepted the response of the one before is gone: only the new command's own result can be read,
if that (R26, R21). -/
def Obligations.OldResultsAreUnreadable : Prop :=
  ∀ (i : Instr) (s t : State), s.seq = 0 → exec i s = .next t →
    (i ≠ .rdsnap → readSnap t = .error (.noValue .snap)) ∧
    (i ≠ .touched → readTouch t = .error (.noValue .touch)) ∧
    (i ≠ .count → readCount t = .error (.noValue .count)) ∧
    (i ≠ .points → readNpts t = .error (.noValue .npts) ∧
      (∀ k, readX t k = .error (.noValue (.x k))) ∧ ∀ k, readY t k = .error (.noValue (.y k)))

/-! ## What a result depends on -/

/-- No command but RDSNAP depends on the bytes and bits the block never interprets (an inference that R45 marks as derived),
in any snapshot of its operation, under either policy, in any state: with two scripts of answers that are pairwise the same,
or snapshots alike in what is interpreted, a command runs to the same next state but for the answers left over, which
`OnlyWholeReadsAndOneByteWrites` says. Beyond the scripts, equal traffic stands for equal answers (log entry 2). -/
def Obligations.UninterpretedBytesDoNotMatter : Prop :=
  ∀ (i : Instr) (s : State) (answers answers' : List BusAnswer), i ≠ .rdsnap →
    List.Forall₂ (AnswersAgree SameInterpreted) answers answers' →
    AgreeButBus (exec i (s.withBus answers)) (exec i (s.withBus answers'))

/-- Each query reads only its own signal (R127, R150, R155), under either policy: COUNT the count byte of its snapshot;
TOUCHED the flag of each slot in the snapshot that slot is read from, and no count; POINTS the count of its first snapshot
and the coordinates of the slots it selects, each in the snapshot that slot is read from, and no flag. Beyond the answers
given, equal traffic stands for equal answers (log entry 2). -/
def Obligations.QueriesReadOnlyTheirSignal : Prop :=
  ∀ (s : State) (a b c a' b' c' : BusAnswer) (later : List BusAnswer),
    let before := s.withBus (a :: b :: c :: later)
    let after := s.withBus (a' :: b' :: c' :: later)
    (AnswersAgree (fun S S' => S[0x02] = S'[0x02]) a a' → AgreeButBus (exec .count before) (exec .count after)) ∧
    (s.params.snapPolicy = .single →
      AnswersAgree (fun S S' => touchFlag S[0x03] = touchFlag S'[0x03] ∧ touchFlag S[0x09] = touchFlag S'[0x09]) a a' →
      AgreeButBus (exec .touched before) (exec .touched after)) ∧
    (s.params.snapPolicy = .perStep →
      AnswersAgree (fun S S' => touchFlag S[0x03] = touchFlag S'[0x03]) a a' →
      AnswersAgree (fun S S' => touchFlag S[0x09] = touchFlag S'[0x09]) b b' →
      AgreeButBus (exec .touched before) (exec .touched after)) ∧
    (s.params.snapPolicy = .single →
      AnswersAgree (fun S S' => S[0x02] = S'[0x02] ∧
        (1 ≤ S[0x02].toNat → rawPoint S .slot1 = rawPoint S' .slot1) ∧
        (2 ≤ S[0x02].toNat → rawPoint S .slot2 = rawPoint S' .slot2)) a a' →
      AgreeButBus (exec .points before) (exec .points after)) ∧
    (s.params.snapPolicy = .perStep →
      AnswersAgree (fun S S' => S[0x02] = S'[0x02]) a a' →
      (∀ S : Snapshot, a = .ok S.toList →
        (1 ≤ S[0x02].toNat → AnswersAgree (fun S S' => rawPoint S .slot1 = rawPoint S' .slot1) b b') ∧
        (2 ≤ S[0x02].toNat → AnswersAgree (fun S S' => rawPoint S .slot2 = rawPoint S' .slot2) c c')) →
      AgreeButBus (exec .points before) (exec .points after))

/-- No operation's outcome depends on any earlier operation (R28): two idle blocks with the same lifecycle, geometry,
parameters, geometry port and bus, whatever their status and result registers hold, run a command to the same response,
the same lifecycle and geometry and the same bus traffic. That equal bus script and equal traffic stand for equal answers is
the model's choice (log entry 2). -/
def Obligations.NothingSurvivesAnOperation : Prop :=
  ∀ (i : Instr) (s s' : State), s.seq = 0 → s'.seq = 0 →
    s.constructed = s'.constructed → s.rot = s'.rot → s.width = s'.width → s.height = s'.height →
    s.params = s'.params → s.geomPort = s'.geomPort → s.bus = s'.bus → s.traffic = s'.traffic →
    ∃ t t', exec i s = .next t ∧ exec i s' = .next t' ∧ response t = response t' ∧ t.seq = t'.seq ∧
      t.constructed = t'.constructed ∧ t.rot = t'.rot ∧ t.width = t'.width ∧ t.height = t'.height ∧
      t.bus = t'.bus ∧ t.traffic = t'.traffic

/-- Every result of `single` is a result of `per_step` (R149 draws it of POINTS from R148; of the others it is an
inference): for any command in any state of a `single` block there are bus answers with which the `per_step` block reaches
the same response, phase, lifecycle and geometry. It says nothing of the bus transactions, which differ (R18). -/
def Obligations.PerStepIncludesSingle : Prop :=
  ∀ (i : Instr) (s t : State), s.params.snapPolicy = .single → exec i s = .next t →
    ∃ (answers : List BusAnswer) (t' : State),
      exec i ((s.withPolicy .perStep).withBus answers) = .next t' ∧
      response t' = response t ∧ t'.seq = t.seq ∧ t'.constructed = t.constructed ∧
      t'.rot = t.rot ∧ t'.width = t.width ∧ t'.height = t.height

/-! ## The invariant -/

/-- Every step takes a legal state to a legal state (R10 to R31, R170). That `R_NPTS` is at most 2 after the reset event is by
the value the model holds there (log entry 5). -/
def Obligations.EveryStepKeepsInv : Prop :=
  ∀ s t : State, s.Inv → step s = .next t → t.Inv

/-- The reset state is legal; that `R_NPTS` is at most 2 there is by the value the model chose for it (log entry 5). -/
def Obligations.ResetStateIsLegal : Prop := State.reset.Inv

/-- In the model no step stops: from every legal state, with any pins and any answers, any number of steps answers a next
state, and a legal one. A fault of the block is a next state (R174, R175; log entry 17), and so is a wait for an answer that
never comes (log entry 3): there the steps go on while the block hangs until reset (R183), and the run of R206 has no end. -/
def Obligations.EveryRunGoesThrough : Prop :=
  ∀ (n : Nat) (s : State), s.Inv → ∃ t, Sys2Proof.core.run n s = .next t ∧ t.Inv

/-! ## The bus's answers, the offsets and the response -/

/-- How each answer of the bus to a register write is taken (R47): success whatever it carries (log entry 9), failure, never. -/
def Obligations.WriteAnswerIsSuccessOrFailure : Prop :=
  (∀ bytes : List Byte, asWritten (.ok bytes) = .answered ()) ∧
  asWritten .failure = .failed ∧ asWritten .never = .never

/-- The reply of which the statements on the commands speak is the bus's answer, taken as the two primitives take it (R46,
R47): to a read after `n` reads of its operation, the answer that stands `n` places down the script; to a write, the first.
Where the script has no answer left it is the free one, of all requests issued up to this one (log entry 2). -/
def Obligations.RepliesAreTheBusAnswers : Prop :=
  ∀ s : State,
    (∀ n a later, s.bus.drop n = a :: later → replyAfter n s = asSnapshot a) ∧
    (∀ n, s.bus.drop n = [] →
      replyAfter n s =
        asSnapshot (Config.freeAnswer (s.traffic ++ List.replicate (n + 1) (.read 0x38 0x00 189)))) ∧
    (∀ a later, s.bus = a :: later →
      (∀ r, s.answerTo r = a) ∧ ∀ off val, writtenReply off val s = asWritten a) ∧
    (s.bus = [] →
      (∀ r, s.answerTo r = Config.freeAnswer (s.traffic ++ [r])) ∧
      ∀ off val, writtenReply off val s = asWritten (Config.freeAnswer (s.traffic ++ [.write 0x38 off [val]])))

/-- An offset is valid exactly when one of the implementation's ranges contains it: `VALID_OFFSETS` is a parameter (R5,
R105). That it is given as ranges is log entry 8. -/
def Obligations.ValidOffsetsAreTheRanges : Prop :=
  ∀ (p : Params) (off : Byte),
    offsetValid p off = true ↔
      ∃ r ∈ p.validOffsets, r.first.toNat ≤ off.toNat ∧ off.toNat ≤ r.last.toNat

/-- The response (R26, R206): none while an operation is in progress; else `R_STATUS`, `R_FINFO` and exactly the results the
caller can read (R21), the pairs being the first `R_NPTS` of `(R_X[i], R_Y[i])` (R24). -/
def Obligations.ResponseIsWhatCanBeRead : Prop :=
  ∀ s : State,
    (s.seq ≠ 0 → response s = none) ∧
    (s.seq = 0 → ∃ r, response s = some r ∧
      r.status = s.rStatus ∧ r.finfo = s.rFinfo ∧
      (∀ S, r.snap = some S ↔ readSnap s = .ok S) ∧
      (∀ v, r.touch = some v ↔ readTouch s = .ok v) ∧
      (∀ v, r.count = some v ↔ readCount s = .ok v) ∧
      (r.points = none ↔ readNpts s = .error (.noValue .npts)) ∧
      ∀ pts, r.points = some pts →
        readNpts s = .ok s.rNpts ∧ pts.length = min s.rNpts.toNat 2 ∧
        ∀ (k : Nat) (hk : k < pts.length) (hk2 : k < 2),
          readX s ⟨k, hk2⟩ = .ok pts[k].x ∧ readY s ⟨k, hk2⟩ = .ok pts[k].y)

/-! ## Runs -/

/-- The outcome of a run, command by command (R206). A run of no commands from an idle block has ended, with nothing seen.
If the first command's operation ends in `t`, its response stands first and its transactions first, and the outcome goes on as
that of the run of the other commands from `t`; if it hangs, the run has no end, and neither that operation nor any later
command has a response or a further transaction (R183). The form of a run is log entry 19. -/
def Obligations.RunOutcomeCommandByCommand : Prop :=
  ∀ (s : State) (draws : List BusAnswer), s.seq = 0 →
    (Run.outcome ⟨s, [], draws⟩ = ⟨[], [], true⟩) ∧
    ∀ (p : Presentation) (later : List Presentation),
      ∃ t, step (Run.initial ⟨s, [p], draws⟩) = .next t ∧
        (t.seq = 0 → ∃ r, response t = some r ∧
          Run.outcome ⟨s, p :: later, draws⟩ =
            { responses := r :: (Run.outcome ⟨t, later, t.bus⟩).responses
              transactions := newTransactions s t ++ (Run.outcome ⟨t, later, t.bus⟩).transactions
              ended := (Run.outcome ⟨t, later, t.bus⟩).ended }) ∧
        (t.seq ≠ 0 →
          Run.outcome ⟨s, p :: later, draws⟩ =
            { responses := [], transactions := newTransactions s t, ended := false })

/-- A run from an idle block has ended exactly when every command has its response, and no run has more responses than
commands (R206, R71: "Each accepted word starts exactly one operation"). The form of a run is log entry 19. -/
def Obligations.OneResponseForEachCommand : Prop :=
  ∀ r : Run, r.start.seq = 0 →
    r.outcome.responses.length ≤ r.commands.length ∧
    (r.outcome.ended = true ↔ r.outcome.responses.length = r.commands.length)

/-- The transactions of a run are, in order, what the bus has seen after it and had not seen before it (R206, R58). The form
of a run is log entry 19. -/
def Obligations.RunTransactionsAreTheTraffic : Prop :=
  ∀ r : Run, ∃ t, Sys2Proof.core.run r.commands.length r.initial = .next t ∧
    t.traffic = r.start.traffic ++ r.outcome.transactions ∧ (r.outcome.ended = true ↔ t.seq = 0)

/-- The outcome of a run is that of its commands and draws (R28, R206): from two idle blocks with the same lifecycle,
captured geometry, parameters and traffic, whatever else they hold, it is the same. That equal draws and equal traffic stand
for equal answers is the model's choice (log entry 2), the form of a run is log entry 19. -/
def Obligations.RunsForgetEarlierResults : Prop :=
  ∀ (s s' : State) (commands : List Presentation) (draws : List BusAnswer), s.seq = 0 → s'.seq = 0 →
    s.constructed = s'.constructed → s.rot = s'.rot → s.width = s'.width → s.height = s'.height →
    s.params = s'.params → s.traffic = s'.traffic →
    Run.outcome ⟨s, commands, draws⟩ = Run.outcome ⟨s', commands, draws⟩
end

