-- ==== Sys2Proof/Laws/State.lean ====
section
/-! SUPPORT. One lemma per field of State for each update the machine makes, so that no proof unfolds a record update. -/

namespace Sys2Proof.Machine

/-! ## accept (R21) -/

@[simp] theorem accept_constructed (s : State) : (accept s).constructed = s.constructed := rfl
@[simp] theorem accept_rot (s : State) : (accept s).rot = s.rot := rfl
@[simp] theorem accept_width (s : State) : (accept s).width = s.width := rfl
@[simp] theorem accept_height (s : State) : (accept s).height = s.height := rfl
@[simp] theorem accept_seq (s : State) : (accept s).seq = s.seq := rfl
@[simp] theorem accept_rStatus (s : State) : (accept s).rStatus = s.rStatus := rfl
@[simp] theorem accept_rFinfo (s : State) : (accept s).rFinfo = s.rFinfo := rfl
@[simp] theorem accept_rValid (s : State) : (accept s).rValid = 0b0000 := rfl
@[simp] theorem accept_rCount (s : State) : (accept s).rCount = s.rCount := rfl
@[simp] theorem accept_rTouch (s : State) : (accept s).rTouch = s.rTouch := rfl
@[simp] theorem accept_rNpts (s : State) : (accept s).rNpts = s.rNpts := rfl
@[simp] theorem accept_rX (s : State) : (accept s).rX = s.rX := rfl
@[simp] theorem accept_rY (s : State) : (accept s).rY = s.rY := rfl
@[simp] theorem accept_rSnap (s : State) : (accept s).rSnap = s.rSnap := rfl
@[simp] theorem accept_params (s : State) : (accept s).params = s.params := rfl
@[simp] theorem accept_geomPort (s : State) : (accept s).geomPort = s.geomPort := rfl
@[simp] theorem accept_inputs (s : State) : (accept s).inputs = s.inputs := rfl
@[simp] theorem accept_bus (s : State) : (accept s).bus = s.bus := rfl
@[simp] theorem accept_traffic (s : State) : (accept s).traffic = s.traffic := rfl

/-! ## raise (R174) -/

@[simp] theorem raise_constructed (c : Cause) (s : State) : (raise c s).constructed = s.constructed := rfl
@[simp] theorem raise_rot (c : Cause) (s : State) : (raise c s).rot = s.rot := rfl
@[simp] theorem raise_width (c : Cause) (s : State) : (raise c s).width = s.width := rfl
@[simp] theorem raise_height (c : Cause) (s : State) : (raise c s).height = s.height := rfl
@[simp] theorem raise_seq (c : Cause) (s : State) : (raise c s).seq = 0 := rfl
@[simp] theorem raise_rStatus (c : Cause) (s : State) : (raise c s).rStatus = c.code := rfl
@[simp] theorem raise_rFinfo (c : Cause) (s : State) : (raise c s).rFinfo = c.info := rfl
@[simp] theorem raise_rValid (c : Cause) (s : State) : (raise c s).rValid = s.rValid := rfl
@[simp] theorem raise_rCount (c : Cause) (s : State) : (raise c s).rCount = s.rCount := rfl
@[simp] theorem raise_rTouch (c : Cause) (s : State) : (raise c s).rTouch = s.rTouch := rfl
@[simp] theorem raise_rNpts (c : Cause) (s : State) : (raise c s).rNpts = s.rNpts := rfl
@[simp] theorem raise_rX (c : Cause) (s : State) : (raise c s).rX = s.rX := rfl
@[simp] theorem raise_rY (c : Cause) (s : State) : (raise c s).rY = s.rY := rfl
@[simp] theorem raise_rSnap (c : Cause) (s : State) : (raise c s).rSnap = s.rSnap := rfl
@[simp] theorem raise_params (c : Cause) (s : State) : (raise c s).params = s.params := rfl
@[simp] theorem raise_geomPort (c : Cause) (s : State) : (raise c s).geomPort = s.geomPort := rfl
@[simp] theorem raise_inputs (c : Cause) (s : State) : (raise c s).inputs = s.inputs := rfl
@[simp] theorem raise_bus (c : Cause) (s : State) : (raise c s).bus = s.bus := rfl
@[simp] theorem raise_traffic (c : Cause) (s : State) : (raise c s).traffic = s.traffic := rfl

/-! ## succeed (R19 to R21) -/

@[simp] theorem succeed_constructed (f : BitVec 4) (s : State) : (succeed f s).constructed = s.constructed := rfl
@[simp] theorem succeed_rot (f : BitVec 4) (s : State) : (succeed f s).rot = s.rot := rfl
@[simp] theorem succeed_width (f : BitVec 4) (s : State) : (succeed f s).width = s.width := rfl
@[simp] theorem succeed_height (f : BitVec 4) (s : State) : (succeed f s).height = s.height := rfl
@[simp] theorem succeed_seq (f : BitVec 4) (s : State) : (succeed f s).seq = 0 := rfl
@[simp] theorem succeed_rStatus (f : BitVec 4) (s : State) : (succeed f s).rStatus = 0x00 := rfl
@[simp] theorem succeed_rFinfo (f : BitVec 4) (s : State) : (succeed f s).rFinfo = 0 := rfl
@[simp] theorem succeed_rValid (f : BitVec 4) (s : State) : (succeed f s).rValid = s.rValid ||| f := rfl
@[simp] theorem succeed_rCount (f : BitVec 4) (s : State) : (succeed f s).rCount = s.rCount := rfl
@[simp] theorem succeed_rTouch (f : BitVec 4) (s : State) : (succeed f s).rTouch = s.rTouch := rfl
@[simp] theorem succeed_rNpts (f : BitVec 4) (s : State) : (succeed f s).rNpts = s.rNpts := rfl
@[simp] theorem succeed_rX (f : BitVec 4) (s : State) : (succeed f s).rX = s.rX := rfl
@[simp] theorem succeed_rY (f : BitVec 4) (s : State) : (succeed f s).rY = s.rY := rfl
@[simp] theorem succeed_rSnap (f : BitVec 4) (s : State) : (succeed f s).rSnap = s.rSnap := rfl
@[simp] theorem succeed_params (f : BitVec 4) (s : State) : (succeed f s).params = s.params := rfl
@[simp] theorem succeed_geomPort (f : BitVec 4) (s : State) : (succeed f s).geomPort = s.geomPort := rfl
@[simp] theorem succeed_inputs (f : BitVec 4) (s : State) : (succeed f s).inputs = s.inputs := rfl
@[simp] theorem succeed_bus (f : BitVec 4) (s : State) : (succeed f s).bus = s.bus := rfl
@[simp] theorem succeed_traffic (f : BitVec 4) (s : State) : (succeed f s).traffic = s.traffic := rfl

/-! ## issue (R18) -/

@[simp] theorem issue_constructed (k : BitVec 2) (r : BusRequest) (s : State) : (issue k r s).constructed = s.constructed :=
    rfl
@[simp] theorem issue_rot (k : BitVec 2) (r : BusRequest) (s : State) : (issue k r s).rot = s.rot := rfl
@[simp] theorem issue_width (k : BitVec 2) (r : BusRequest) (s : State) : (issue k r s).width = s.width := rfl
@[simp] theorem issue_height (k : BitVec 2) (r : BusRequest) (s : State) : (issue k r s).height = s.height := rfl
@[simp] theorem issue_seq (k : BitVec 2) (r : BusRequest) (s : State) : (issue k r s).seq = k := rfl
@[simp] theorem issue_rStatus (k : BitVec 2) (r : BusRequest) (s : State) : (issue k r s).rStatus = s.rStatus := rfl
@[simp] theorem issue_rFinfo (k : BitVec 2) (r : BusRequest) (s : State) : (issue k r s).rFinfo = s.rFinfo := rfl
@[simp] theorem issue_rValid (k : BitVec 2) (r : BusRequest) (s : State) : (issue k r s).rValid = s.rValid := rfl
@[simp] theorem issue_rCount (k : BitVec 2) (r : BusRequest) (s : State) : (issue k r s).rCount = s.rCount := rfl
@[simp] theorem issue_rTouch (k : BitVec 2) (r : BusRequest) (s : State) : (issue k r s).rTouch = s.rTouch := rfl
@[simp] theorem issue_rNpts (k : BitVec 2) (r : BusRequest) (s : State) : (issue k r s).rNpts = s.rNpts := rfl
@[simp] theorem issue_rX (k : BitVec 2) (r : BusRequest) (s : State) : (issue k r s).rX = s.rX := rfl
@[simp] theorem issue_rY (k : BitVec 2) (r : BusRequest) (s : State) : (issue k r s).rY = s.rY := rfl
@[simp] theorem issue_rSnap (k : BitVec 2) (r : BusRequest) (s : State) : (issue k r s).rSnap = s.rSnap := rfl
@[simp] theorem issue_params (k : BitVec 2) (r : BusRequest) (s : State) : (issue k r s).params = s.params := rfl
@[simp] theorem issue_geomPort (k : BitVec 2) (r : BusRequest) (s : State) : (issue k r s).geomPort = s.geomPort := rfl
@[simp] theorem issue_inputs (k : BitVec 2) (r : BusRequest) (s : State) : (issue k r s).inputs = s.inputs := rfl
@[simp] theorem issue_bus (k : BitVec 2) (r : BusRequest) (s : State) : (issue k r s).bus = s.bus.tail := rfl
@[simp] theorem issue_traffic (k : BitVec 2) (r : BusRequest) (s : State) : (issue k r s).traffic = s.traffic ++ [r] :=
    rfl

/-! ## applyReset (R200) -/

@[simp] theorem applyReset_constructed (s : State) : (applyReset s).constructed = State.reset.constructed := rfl
@[simp] theorem applyReset_rot (s : State) : (applyReset s).rot = State.reset.rot := rfl
@[simp] theorem applyReset_width (s : State) : (applyReset s).width = State.reset.width := rfl
@[simp] theorem applyReset_height (s : State) : (applyReset s).height = State.reset.height := rfl
@[simp] theorem applyReset_seq (s : State) : (applyReset s).seq = State.reset.seq := rfl
@[simp] theorem applyReset_rStatus (s : State) : (applyReset s).rStatus = State.reset.rStatus := rfl
@[simp] theorem applyReset_rFinfo (s : State) : (applyReset s).rFinfo = State.reset.rFinfo := rfl
@[simp] theorem applyReset_rValid (s : State) : (applyReset s).rValid = State.reset.rValid := rfl
@[simp] theorem applyReset_rCount (s : State) : (applyReset s).rCount = State.reset.rCount := rfl
@[simp] theorem applyReset_rTouch (s : State) : (applyReset s).rTouch = State.reset.rTouch := rfl
@[simp] theorem applyReset_rNpts (s : State) : (applyReset s).rNpts = State.reset.rNpts := rfl
@[simp] theorem applyReset_rX (s : State) : (applyReset s).rX = State.reset.rX := rfl
@[simp] theorem applyReset_rY (s : State) : (applyReset s).rY = State.reset.rY := rfl
@[simp] theorem applyReset_rSnap (s : State) : (applyReset s).rSnap = State.reset.rSnap := rfl
@[simp] theorem applyReset_params (s : State) : (applyReset s).params = s.params := rfl
@[simp] theorem applyReset_geomPort (s : State) : (applyReset s).geomPort = s.geomPort := rfl
@[simp] theorem applyReset_inputs (s : State) : (applyReset s).inputs = s.inputs := rfl
@[simp] theorem applyReset_bus (s : State) : (applyReset s).bus = s.bus := rfl
@[simp] theorem applyReset_traffic (s : State) : (applyReset s).traffic = s.traffic := rfl

/-! ## readsDone -/

@[simp] theorem readsDone_constructed (s : State) (n : Nat) : (s.readsDone n).constructed = s.constructed := rfl
@[simp] theorem readsDone_rot (s : State) (n : Nat) : (s.readsDone n).rot = s.rot := rfl
@[simp] theorem readsDone_width (s : State) (n : Nat) : (s.readsDone n).width = s.width := rfl
@[simp] theorem readsDone_height (s : State) (n : Nat) : (s.readsDone n).height = s.height := rfl
@[simp] theorem readsDone_seq (s : State) (n : Nat) : (s.readsDone n).seq = s.seq := rfl
@[simp] theorem readsDone_rStatus (s : State) (n : Nat) : (s.readsDone n).rStatus = s.rStatus := rfl
@[simp] theorem readsDone_rFinfo (s : State) (n : Nat) : (s.readsDone n).rFinfo = s.rFinfo := rfl
@[simp] theorem readsDone_rValid (s : State) (n : Nat) : (s.readsDone n).rValid = s.rValid := rfl
@[simp] theorem readsDone_rCount (s : State) (n : Nat) : (s.readsDone n).rCount = s.rCount := rfl
@[simp] theorem readsDone_rTouch (s : State) (n : Nat) : (s.readsDone n).rTouch = s.rTouch := rfl
@[simp] theorem readsDone_rNpts (s : State) (n : Nat) : (s.readsDone n).rNpts = s.rNpts := rfl
@[simp] theorem readsDone_rX (s : State) (n : Nat) : (s.readsDone n).rX = s.rX := rfl
@[simp] theorem readsDone_rY (s : State) (n : Nat) : (s.readsDone n).rY = s.rY := rfl
@[simp] theorem readsDone_rSnap (s : State) (n : Nat) : (s.readsDone n).rSnap = s.rSnap := rfl
@[simp] theorem readsDone_params (s : State) (n : Nat) : (s.readsDone n).params = s.params := rfl
@[simp] theorem readsDone_geomPort (s : State) (n : Nat) : (s.readsDone n).geomPort = s.geomPort := rfl
@[simp] theorem readsDone_inputs (s : State) (n : Nat) : (s.readsDone n).inputs = s.inputs := rfl
@[simp] theorem readsDone_bus (s : State) (n : Nat) : (s.readsDone n).bus = s.bus.drop n := rfl
@[simp] theorem readsDone_traffic (s : State) (n : Nat) : (s.readsDone n).traffic = s.traffic ++ List.replicate n snapshotRequest :=
    rfl

/-! ## withBus, withPolicy -/

@[simp] theorem withBus_constructed (s : State) (b : List BusAnswer) : (s.withBus b).constructed = s.constructed := rfl
@[simp] theorem withBus_rot (s : State) (b : List BusAnswer) : (s.withBus b).rot = s.rot := rfl
@[simp] theorem withBus_width (s : State) (b : List BusAnswer) : (s.withBus b).width = s.width := rfl
@[simp] theorem withBus_height (s : State) (b : List BusAnswer) : (s.withBus b).height = s.height := rfl
@[simp] theorem withBus_seq (s : State) (b : List BusAnswer) : (s.withBus b).seq = s.seq := rfl
@[simp] theorem withBus_rStatus (s : State) (b : List BusAnswer) : (s.withBus b).rStatus = s.rStatus := rfl
@[simp] theorem withBus_rFinfo (s : State) (b : List BusAnswer) : (s.withBus b).rFinfo = s.rFinfo := rfl
@[simp] theorem withBus_rValid (s : State) (b : List BusAnswer) : (s.withBus b).rValid = s.rValid := rfl
@[simp] theorem withBus_rCount (s : State) (b : List BusAnswer) : (s.withBus b).rCount = s.rCount := rfl
@[simp] theorem withBus_rTouch (s : State) (b : List BusAnswer) : (s.withBus b).rTouch = s.rTouch := rfl
@[simp] theorem withBus_rNpts (s : State) (b : List BusAnswer) : (s.withBus b).rNpts = s.rNpts := rfl
@[simp] theorem withBus_rX (s : State) (b : List BusAnswer) : (s.withBus b).rX = s.rX := rfl
@[simp] theorem withBus_rY (s : State) (b : List BusAnswer) : (s.withBus b).rY = s.rY := rfl
@[simp] theorem withBus_rSnap (s : State) (b : List BusAnswer) : (s.withBus b).rSnap = s.rSnap := rfl
@[simp] theorem withBus_params (s : State) (b : List BusAnswer) : (s.withBus b).params = s.params := rfl
@[simp] theorem withBus_geomPort (s : State) (b : List BusAnswer) : (s.withBus b).geomPort = s.geomPort := rfl
@[simp] theorem withBus_inputs (s : State) (b : List BusAnswer) : (s.withBus b).inputs = s.inputs := rfl
@[simp] theorem withBus_bus (s : State) (b : List BusAnswer) : (s.withBus b).bus = b := rfl
@[simp] theorem withBus_traffic (s : State) (b : List BusAnswer) : (s.withBus b).traffic = s.traffic := rfl
@[simp] theorem withPolicy_constructed (s : State) (p : SnapPolicy) : (s.withPolicy p).constructed = s.constructed :=
    rfl
@[simp] theorem withPolicy_rot (s : State) (p : SnapPolicy) : (s.withPolicy p).rot = s.rot := rfl
@[simp] theorem withPolicy_width (s : State) (p : SnapPolicy) : (s.withPolicy p).width = s.width := rfl
@[simp] theorem withPolicy_height (s : State) (p : SnapPolicy) : (s.withPolicy p).height = s.height := rfl
@[simp] theorem withPolicy_seq (s : State) (p : SnapPolicy) : (s.withPolicy p).seq = s.seq := rfl
@[simp] theorem withPolicy_rStatus (s : State) (p : SnapPolicy) : (s.withPolicy p).rStatus = s.rStatus := rfl
@[simp] theorem withPolicy_rFinfo (s : State) (p : SnapPolicy) : (s.withPolicy p).rFinfo = s.rFinfo := rfl
@[simp] theorem withPolicy_rValid (s : State) (p : SnapPolicy) : (s.withPolicy p).rValid = s.rValid := rfl
@[simp] theorem withPolicy_rCount (s : State) (p : SnapPolicy) : (s.withPolicy p).rCount = s.rCount := rfl
@[simp] theorem withPolicy_rTouch (s : State) (p : SnapPolicy) : (s.withPolicy p).rTouch = s.rTouch := rfl
@[simp] theorem withPolicy_rNpts (s : State) (p : SnapPolicy) : (s.withPolicy p).rNpts = s.rNpts := rfl
@[simp] theorem withPolicy_rX (s : State) (p : SnapPolicy) : (s.withPolicy p).rX = s.rX := rfl
@[simp] theorem withPolicy_rY (s : State) (p : SnapPolicy) : (s.withPolicy p).rY = s.rY := rfl
@[simp] theorem withPolicy_rSnap (s : State) (p : SnapPolicy) : (s.withPolicy p).rSnap = s.rSnap := rfl
@[simp] theorem withPolicy_params (s : State) (p : SnapPolicy) : (s.withPolicy p).params = { s.params with snapPolicy := p } :=
    rfl
@[simp] theorem withPolicy_geomPort (s : State) (p : SnapPolicy) : (s.withPolicy p).geomPort = s.geomPort := rfl
@[simp] theorem withPolicy_inputs (s : State) (p : SnapPolicy) : (s.withPolicy p).inputs = s.inputs := rfl
@[simp] theorem withPolicy_bus (s : State) (p : SnapPolicy) : (s.withPolicy p).bus = s.bus := rfl
@[simp] theorem withPolicy_traffic (s : State) (p : SnapPolicy) : (s.withPolicy p).traffic = s.traffic := rfl

/-! ## sampleInputs (R207) -/

@[simp] theorem sampleInputs_constructed (s : State) : (sampleInputs s).constructed = s.constructed := by
  unfold sampleInputs; split <;> rfl
@[simp] theorem sampleInputs_rot (s : State) : (sampleInputs s).rot = s.rot := by
  unfold sampleInputs; split <;> rfl
@[simp] theorem sampleInputs_width (s : State) : (sampleInputs s).width = s.width := by
  unfold sampleInputs; split <;> rfl
@[simp] theorem sampleInputs_height (s : State) : (sampleInputs s).height = s.height := by
  unfold sampleInputs; split <;> rfl
@[simp] theorem sampleInputs_seq (s : State) : (sampleInputs s).seq = s.seq := by
  unfold sampleInputs; split <;> rfl
@[simp] theorem sampleInputs_rStatus (s : State) : (sampleInputs s).rStatus = s.rStatus := by
  unfold sampleInputs; split <;> rfl
@[simp] theorem sampleInputs_rFinfo (s : State) : (sampleInputs s).rFinfo = s.rFinfo := by
  unfold sampleInputs; split <;> rfl
@[simp] theorem sampleInputs_rValid (s : State) : (sampleInputs s).rValid = s.rValid := by
  unfold sampleInputs; split <;> rfl
@[simp] theorem sampleInputs_rCount (s : State) : (sampleInputs s).rCount = s.rCount := by
  unfold sampleInputs; split <;> rfl
@[simp] theorem sampleInputs_rTouch (s : State) : (sampleInputs s).rTouch = s.rTouch := by
  unfold sampleInputs; split <;> rfl
@[simp] theorem sampleInputs_rNpts (s : State) : (sampleInputs s).rNpts = s.rNpts := by
  unfold sampleInputs; split <;> rfl
@[simp] theorem sampleInputs_rX (s : State) : (sampleInputs s).rX = s.rX := by
  unfold sampleInputs; split <;> rfl
@[simp] theorem sampleInputs_rY (s : State) : (sampleInputs s).rY = s.rY := by
  unfold sampleInputs; split <;> rfl
@[simp] theorem sampleInputs_rSnap (s : State) : (sampleInputs s).rSnap = s.rSnap := by
  unfold sampleInputs; split <;> rfl
@[simp] theorem sampleInputs_params (s : State) : (sampleInputs s).params = s.params := by
  unfold sampleInputs; split <;> rfl
@[simp] theorem sampleInputs_bus (s : State) : (sampleInputs s).bus = s.bus := by
  unfold sampleInputs; split <;> rfl
@[simp] theorem sampleInputs_traffic (s : State) : (sampleInputs s).traffic = s.traffic := by
  unfold sampleInputs; split <;> rfl

theorem sampleInputs_cons (s : State) (p : Inputs) (rest : List Inputs) (h : s.inputs = p :: rest) :
    sampleInputs s = { s with inputs := rest, geomPort := p.geom } := by
  simp [sampleInputs, h]

theorem sampleInputs_nil (s : State) (h : s.inputs = []) : sampleInputs s = s := by
  simp [sampleInputs, h]

@[simp] theorem sampleInputs_inputs (s : State) : (sampleInputs s).inputs = s.inputs.tail := by
  unfold sampleInputs; split <;> simp [*]

/-! ## deliver (R148) -/

@[simp] theorem deliver_constructed (pts : List Point) (s : State) : (deliver pts s).constructed = s.constructed := by
  unfold deliver; split <;> rfl
@[simp] theorem deliver_rot (pts : List Point) (s : State) : (deliver pts s).rot = s.rot := by
  unfold deliver; split <;> rfl
@[simp] theorem deliver_width (pts : List Point) (s : State) : (deliver pts s).width = s.width := by
  unfold deliver; split <;> rfl
@[simp] theorem deliver_height (pts : List Point) (s : State) : (deliver pts s).height = s.height := by
  unfold deliver; split <;> rfl
@[simp] theorem deliver_seq (pts : List Point) (s : State) : (deliver pts s).seq = s.seq := by
  unfold deliver; split <;> rfl
@[simp] theorem deliver_rStatus (pts : List Point) (s : State) : (deliver pts s).rStatus = s.rStatus := by
  unfold deliver; split <;> rfl
@[simp] theorem deliver_rFinfo (pts : List Point) (s : State) : (deliver pts s).rFinfo = s.rFinfo := by
  unfold deliver; split <;> rfl
@[simp] theorem deliver_rValid (pts : List Point) (s : State) : (deliver pts s).rValid = s.rValid := by
  unfold deliver; split <;> rfl
@[simp] theorem deliver_rCount (pts : List Point) (s : State) : (deliver pts s).rCount = s.rCount := by
  unfold deliver; split <;> rfl
@[simp] theorem deliver_rTouch (pts : List Point) (s : State) : (deliver pts s).rTouch = s.rTouch := by
  unfold deliver; split <;> rfl
@[simp] theorem deliver_rSnap (pts : List Point) (s : State) : (deliver pts s).rSnap = s.rSnap := by
  unfold deliver; split <;> rfl
@[simp] theorem deliver_params (pts : List Point) (s : State) : (deliver pts s).params = s.params := by
  unfold deliver; split <;> rfl
@[simp] theorem deliver_geomPort (pts : List Point) (s : State) : (deliver pts s).geomPort = s.geomPort := by
  unfold deliver; split <;> rfl
@[simp] theorem deliver_inputs (pts : List Point) (s : State) : (deliver pts s).inputs = s.inputs := by
  unfold deliver; split <;> rfl
@[simp] theorem deliver_bus (pts : List Point) (s : State) : (deliver pts s).bus = s.bus := by
  unfold deliver; split <;> rfl
@[simp] theorem deliver_traffic (pts : List Point) (s : State) : (deliver pts s).traffic = s.traffic := by
  unfold deliver; split <;> rfl

end Sys2Proof.Machine
end

