-- ==== Sys2Proof/Laws/Ops.lean ====
section
/-! SUPPORT. One lemma for each thing a shared operation can do, to be cited instead of unfolding it. -/

namespace Sys2Proof.Machine

/-! ## Acceptance and the lifecycle test -/

theorem whenReady_idle (op : State → State) (s : State) (h : s.seq = 0) : whenReady op s = op (accept s) := if_pos h

theorem whenReady_busy (op : State → State) (s : State) (h : s.seq ≠ 0) : whenReady op s = s := if_neg h

theorem whenConstructed_true (op : State → State) (s : State) (h : s.constructed = true) :
    whenConstructed op s = op s := by
  simp [whenConstructed, h]

theorem whenConstructed_false (op : State → State) (s : State) (h : s.constructed = false) :
    whenConstructed op s = raise .notConstructed s := by
  simp [whenConstructed, h]

/-! ## The bus primitives -/

/-- Whatever an operation does with an answer, it is one of three things. -/
theorem afterReply_cases {α : Type} (k : BitVec 2) (reply : Reply α) (next : α → State → State) (s : State) :
    (∃ a, reply = .answered a ∧ afterReply k reply next s = next a s) ∨
    (reply = .failed ∧ afterReply k reply next s = raise (.transportFailure k) s) ∨
    (reply = .never ∧ afterReply k reply next s = s) := by
  cases reply with
  | answered a => exact .inl ⟨a, rfl, rfl⟩
  | failed => exact .inr (.inl ⟨rfl, rfl⟩)
  | never => exact .inr (.inr ⟨rfl, rfl⟩)

theorem readSnapshot_answered {s : State} {S : Snapshot} (k : BitVec 2) (next : Snapshot → State → State)
    (h : snapshotReply s = .answered S) : readSnapshot k next s = next S (issue k snapshotRequest s) := by
  simp [readSnapshot, h, afterReply]

theorem readSnapshot_failed {s : State} (k : BitVec 2) (next : Snapshot → State → State)
    (h : snapshotReply s = .failed) :
    readSnapshot k next s = raise (.transportFailure k) (issue k snapshotRequest s) := by
  simp [readSnapshot, h, afterReply]

theorem readSnapshot_never {s : State} (k : BitVec 2) (next : Snapshot → State → State)
    (h : snapshotReply s = .never) : readSnapshot k next s = issue k snapshotRequest s := by
  simp [readSnapshot, h, afterReply]

theorem writeRegister_answered {s : State} {off val : Byte} (k : BitVec 2) (next : State → State)
    (h : writtenReply off val s = .answered ()) :
    writeRegister k off val next s = next (issue k (writeRequest off val) s) := by
  simp [writeRegister, h, afterReply]

theorem writeRegister_failed {s : State} {off val : Byte} (k : BitVec 2) (next : State → State)
    (h : writtenReply off val s = .failed) :
    writeRegister k off val next s = raise (.transportFailure k) (issue k (writeRequest off val) s) := by
  simp [writeRegister, h, afterReply]

theorem writeRegister_never {s : State} {off val : Byte} (k : BitVec 2) (next : State → State)
    (h : writtenReply off val s = .never) :
    writeRegister k off val next s = issue k (writeRequest off val) s := by
  simp [writeRegister, h, afterReply]

/-- The answer to the next request depends on the bus script and the traffic only. -/
theorem answerTo_congr {s s' : State} (hb : s.bus = s'.bus) (ht : s.traffic = s'.traffic) (r : BusRequest) :
    s.answerTo r = s'.answerTo r := by
  simp [State.answerTo, hb, ht]

theorem snapshotReply_congr {s s' : State} (hb : s.bus = s'.bus) (ht : s.traffic = s'.traffic) :
    snapshotReply s = snapshotReply s' := by
  simp [snapshotReply, answerTo_congr hb ht]

theorem writtenReply_congr {s s' : State} (hb : s.bus = s'.bus) (ht : s.traffic = s'.traffic) (off val : Byte) :
    writtenReply off val s = writtenReply off val s' := by
  simp [writtenReply, answerTo_congr hb ht]

/-- Acceptance does not change what the bus answers. -/
@[simp] theorem answerTo_accept (s : State) (r : BusRequest) : (accept s).answerTo r = s.answerTo r := rfl

@[simp] theorem snapshotReply_accept (s : State) : snapshotReply (accept s) = snapshotReply s := rfl

@[simp] theorem writtenReply_accept (off val : Byte) (s : State) :
    writtenReply off val (accept s) = writtenReply off val s := rfl

theorem answerTo_cons {s : State} {a : BusAnswer} {later : List BusAnswer} (h : s.bus = a :: later) (r : BusRequest) :
    s.answerTo r = a := by
  simp [State.answerTo, h]

/-- The 189 bytes of a snapshot, answered, are that snapshot. -/
theorem asSnapshot_toList (S : Snapshot) : asSnapshot (.ok S.toList) = .answered S := by
  simp [asSnapshot, Vector.toList]

/-- An answer taken as a snapshot is the 189 bytes of it. -/
theorem asSnapshot_eq_answered {a : BusAnswer} {S : Snapshot} : asSnapshot a = .answered S ↔ a = .ok S.toList := by
  constructor
  · intro h
    cases a with
    | ok bytes =>
      by_cases hl : bytes.length = 189
      · simp only [asSnapshot, hl, dif_pos, Reply.answered.injEq] at h
        rw [← h]
        rfl
      · simp [asSnapshot, hl] at h
    | failure => simp [asSnapshot] at h
    | never => simp [asSnapshot] at h
  · rintro rfl
    exact asSnapshot_toList S

theorem snapshotReply_cons {s : State} {S : Snapshot} {later : List BusAnswer} (h : s.bus = .ok S.toList :: later) :
    snapshotReply s = .answered S := by
  rw [snapshotReply, answerTo_cons h, asSnapshot_toList]

/-! ## The rotation test and the delivery of points -/

theorem whenRotation_some {s : State} {r : Rotation} (use : Rotation → State → State) (h : rotSelect s.rot = some r) :
    whenRotation use s = use r s := by
  simp [whenRotation, h]

theorem whenRotation_none {s : State} (use : Rotation → State → State) (h : rotSelect s.rot = none) :
    whenRotation use s = raise (.rotationInvalid s.rot) s := by
  simp [whenRotation, h]

@[simp] theorem deliver_nil (s : State) : deliver [] s = { s with rNpts := 0 } := rfl

@[simp] theorem deliver_one (p : Point) (s : State) :
    deliver [p] s = { s with rNpts := 1, rX := s.rX.set 0 p.x, rY := s.rY.set 0 p.y } := rfl

@[simp] theorem deliver_two (p q : Point) (s : State) :
    deliver [p, q] s =
      { s with rNpts := 2, rX := (s.rX.set 0 p.x).set 1 q.x, rY := (s.rY.set 0 p.y).set 1 q.y } := rfl

theorem drop_two {α : Type} (l : List α) : l.tail.tail = l.drop 2 := by
  cases l <;> simp

theorem drop_three {α : Type} (l : List α) : l.tail.tail.tail = l.drop 3 := by
  rcases l with _ | ⟨a, _ | ⟨b, l⟩⟩ <;> simp

/-- The result of POINTS never counts more than two pairs. -/
theorem deliver_rNpts_le (pts : List Point) (s : State) : (deliver pts s).rNpts ≤ 2 := by
  unfold deliver; split <;> simp

theorem vec2_eta {α : Type} (v : Vector α 2) : v = #v[v[0], v[1]] := by
  ext k hk
  match k, hk with
  | 0, _ => rfl
  | 1, _ => rfl

theorem vec2_set_first {α : Type} (v : Vector α 2) (a : α) : v.set 0 a = #v[a, v[1]] := by
  rw [vec2_eta (v.set 0 a)]; simp

theorem vec2_set_both {α : Type} (v : Vector α 2) (a b : α) : (v.set 0 a).set 1 b = #v[a, b] := by
  rw [vec2_eta ((v.set 0 a).set 1 b)]; simp

/-! ## The register map -/

/-- The offsets written out (R42): a named register's byte is the byte at its place. -/
@[simp] theorem regByte_tdStatus (S : Snapshot) : regByte S .tdStatus = S[0x02] := by
  unfold regByte; rfl
@[simp] theorem regByte_xh1 (S : Snapshot) : regByte S (.xh .slot1) = S[0x03] := by
  unfold regByte; rfl
@[simp] theorem regByte_xl1 (S : Snapshot) : regByte S (.xl .slot1) = S[0x04] := by
  unfold regByte; rfl
@[simp] theorem regByte_yh1 (S : Snapshot) : regByte S (.yh .slot1) = S[0x05] := by
  unfold regByte; rfl
@[simp] theorem regByte_yl1 (S : Snapshot) : regByte S (.yl .slot1) = S[0x06] := by
  unfold regByte; rfl
@[simp] theorem regByte_xh2 (S : Snapshot) : regByte S (.xh .slot2) = S[0x09] := by
  unfold regByte; rfl
@[simp] theorem regByte_xl2 (S : Snapshot) : regByte S (.xl .slot2) = S[0x0A] := by
  unfold regByte; rfl
@[simp] theorem regByte_yh2 (S : Snapshot) : regByte S (.yh .slot2) = S[0x0B] := by
  unfold regByte; rfl
@[simp] theorem regByte_yl2 (S : Snapshot) : regByte S (.yl .slot2) = S[0x0C] := by
  unfold regByte; rfl

/-- `base(k) = 0x03 + 6*(k-1)`, the slots numbered from 1 (R43). -/
theorem slotBase_eq : slotBase .slot1 = 0x03 + 6 * (1 - 1) ∧ slotBase .slot2 = 0x03 + 6 * (2 - 1) := by decide

/-- The map finds every named register at its offset (R42). -/
theorem registerMap_named (r : RegName) : registerMap (BitVec.ofNat 8 r.offset) = .named r := by
  cases r with
  | devMode | gestId | tdStatus => decide
  | xh k | xl k | yh k | yl k | weight k | misc k => cases k <;> decide

end Sys2Proof.Machine
end

