-- ==== Sys2Proof/Laws/Exec.lean ====
section
/-! SUPPORT. What `exec` and `step` can do, said once: every command is its own work behind the ready test, and a step is one
of four things. -/

namespace Sys2Proof.Machine

/-- The work of a command once it has been accepted. -/
def work : Instr → State → State
  | .init => captureGeometry
  | .wrreg off val => whenConstructed (writeConfig off val)
  | .rdsnap => whenConstructed copySnapshot
  | .touched => whenConstructed queryTouched
  | .count => whenConstructed queryCount
  | .points => whenConstructed queryPoints

/-- Every command answers a next state: its work behind the ready test. -/
theorem exec_eq_work (i : Instr) (s : State) : exec i s = .next (whenReady (work i) s) := by
  cases i <;> rfl

/-- If a command answers a next state, the block was busy and nothing happened, or it is the command's work. -/
theorem exec_cases {i : Instr} {s t : State} (h : exec i s = .next t) :
    (s.seq ≠ 0 ∧ t = s) ∨ (s.seq = 0 ∧ t = work i (accept s)) := by
  rw [exec_eq_work, Host.Outcome.next.injEq] at h
  by_cases hs : s.seq = 0
  · exact .inr ⟨hs, by rw [← h, whenReady_idle _ _ hs]⟩
  · exact .inl ⟨hs, by rw [← h, whenReady_busy _ _ hs]⟩

/-- What one step can be: nothing but the pins, the reset event, an illegal word, or a command's run. -/
theorem step_cases (s : State) :
    (presentedWord s = none ∧ resetAsserted s = false ∧ step s = .next (sampleInputs s)) ∨
    (presentedWord s = none ∧ resetAsserted s = true ∧ step s = .next (applyReset (sampleInputs s))) ∨
    (∃ w e, presentedWord s = some w ∧ decode w = .error e ∧
      step s = .next (illegalCommand w (sampleInputs s))) ∨
    (∃ w i, presentedWord s = some w ∧ decode w = .ok i ∧ step s = exec i (sampleInputs s)) := by
  unfold step
  cases hw : presentedWord s with
  | none =>
    cases hr : resetAsserted s with
    | false => exact .inl ⟨rfl, rfl, by simp [quietStep, hr]⟩
    | true => exact .inr (.inl ⟨rfl, rfl, by simp [quietStep, hr]⟩)
  | some w =>
    cases hd : decode w with
    | error e => exact .inr (.inr (.inl ⟨w, e, rfl, hd, by simp [hd]⟩))
    | ok i => exact .inr (.inr (.inr ⟨w, i, rfl, hd, by simp [hd]⟩))

/-- A word is presented only while reset is not asserted. -/
theorem resetAsserted_of_presented {s : State} {w : CmdWord} (h : presentedWord s = some w) :
    resetAsserted s = false := by
  unfold presentedWord at h
  unfold resetAsserted
  split at h <;> simp_all

/-- A run goes on from the state its first step answers. -/
theorem run_succ_of_next {s t : State} (n : Nat) (h : step s = .next t) :
    Sys2Proof.core.run (n + 1) s = Sys2Proof.core.run n t := by
  simp only [Host.Core.run]
  rw [show Sys2Proof.core.step s = .next t from h]

/-! ## What an accepted command can do -/

/-- `s` after an operation has issued the requests `rs` and drawn their answers. -/
def issued (rs : List BusRequest) (s : State) : State :=
  { s with
    seq := BitVec.ofNat 2 rs.length, traffic := s.traffic ++ rs, bus := s.bus.drop rs.length }

/-- `t` is `s` with the result of a succeeding command `i` written. -/
def WritesOwnResult (i : Instr) (s t : State) : Prop :=
  match i with
  | .init =>
    s.constructed = false ∧
      t = { s with
        rot := s.geomPort.rot, width := s.geomPort.width, height := s.geomPort.height, constructed := true }
  | .wrreg _ _ => s.constructed = true ∧ t = s
  | .rdsnap => s.constructed = true ∧ ∃ S, t = { s with rSnap := S }
  | .touched => s.constructed = true ∧ ∃ v, t = { s with rTouch := v }
  | .count => s.constructed = true ∧ ∃ v, t = { s with rCount := v }
  | .points => s.constructed = true ∧ ∃ pts, t = deliver pts s

/-- The fault `c` is one that command `i` can raise in `s` after `n` requests (R170, R173). -/
def Applies (i : Instr) (s : State) (n : Nat) (c : Cause) : Prop :=
  (c = .notConstructed ∧ s.constructed = false ∧ n = 0 ∧ i ≠ .init) ∨
  (c = .alreadyConstructed ∧ s.constructed = true ∧ i = .init ∧ n = 0) ∨
  (s.constructed = true ∧
    ∃ off val, i = .wrreg off val ∧ c = .offsetInvalid off ∧ offsetValid s.params off = false) ∨
  (s.constructed = true ∧ i ≠ .init ∧ 1 ≤ n ∧ c = .transportFailure (BitVec.ofNat 2 n)) ∨
  (s.constructed = true ∧ i = .points ∧ 1 ≤ n ∧ c = .rotationInvalid s.rot ∧ rotSelect s.rot = none)

/-- The requests `rs` are ones that command `i` can make in `s` (R18, R50, R104). -/
def CanRequest (i : Instr) (s : State) (rs : List BusRequest) : Prop :=
  rs.length ≤ 3 ∧ (s.params.snapPolicy = .single → rs.length ≤ 1) ∧ (rs ≠ [] → i ≠ .init) ∧
  ∀ r ∈ rs,
    (r = snapshotRequest ∧ i ≠ .init ∧ ∀ off val, i ≠ .wrreg off val) ∨
    ∃ off val, i = .wrreg off val ∧ offsetValid s.params off = true ∧ r = writeRequest off val

/-- What an accepted command can do: it issues some requests, and then it ends with a fault that applies, or waits for an
answer that never comes, or writes its own result and succeeds. -/
def Ends (i : Instr) (s t : State) : Prop :=
  ∃ rs, CanRequest i s rs ∧
    ((∃ c, Applies i s rs.length c ∧ t = raise c (issued rs s)) ∨
     (s.constructed = true ∧ rs ≠ [] ∧ t = issued rs s) ∨
     (∃ u, WritesOwnResult i (issued rs s) u ∧ t = succeed (resultFlag i) u))

theorem issued_nil (s : State) (h : s.seq = 0) : issued [] s = s := by
  cases s
  simp_all [issued]

/-- One more request on top of those issued. -/
theorem issue_issued (k : BitVec 2) (r : BusRequest) (rs : List BusRequest) (s : State)
    (hk : k = BitVec.ofNat 2 (rs.length + 1)) : issue k r (issued rs s) = issued (rs ++ [r]) s := by
  simp [issue, issued, hk]

theorem ends_fault {i : Instr} {s : State} {c : Cause} {rs : List BusRequest} (hr : CanRequest i s rs)
    (hc : Applies i s rs.length c) : Ends i s (raise c (issued rs s)) :=
  ⟨rs, hr, .inl ⟨c, hc, rfl⟩⟩

theorem ends_success {i : Instr} {s u : State} {rs : List BusRequest} (hr : CanRequest i s rs)
    (hu : WritesOwnResult i (issued rs s) u) : Ends i s (succeed (resultFlag i) u) :=
  ⟨rs, hr, .inr (.inr ⟨u, hu, rfl⟩)⟩

/-- A request ends or waits as `Ends` says if what follows its answer does. -/
theorem ends_request {α : Type} {i : Instr} {s : State} {rs : List BusRequest} {k : BitVec 2} {r : BusRequest}
    (reply : Reply α) (next : α → State → State) (hc : s.constructed = true) (hr : CanRequest i s (rs ++ [r]))
    (hk : k = BitVec.ofNat 2 (rs.length + 1)) (hnext : ∀ a, Ends i s (next a (issued (rs ++ [r]) s))) :
    Ends i s (afterReply k reply next (issue k r (issued rs s))) := by
  rw [issue_issued k r rs s hk]
  have hne : rs ++ [r] ≠ [] := by simp
  cases reply with
  | answered a => exact hnext a
  | failed =>
    refine ends_fault hr (.inr (.inr (.inr (.inl ⟨hc, hr.2.2.1 hne, ?_, ?_⟩)))) <;> simp [hk]
  | never => exact ⟨_, hr, .inr (.inl ⟨hc, hne, rfl⟩)⟩

/-- The same of a snapshot read. -/
theorem ends_read {i : Instr} {s : State} {rs : List BusRequest} {k : BitVec 2} {next : Snapshot → State → State}
    (hc : s.constructed = true) (hr : CanRequest i s (rs ++ [snapshotRequest])) (hk : k = BitVec.ofNat 2 (rs.length + 1))
    (hnext : ∀ S, Ends i s (next S (issued (rs ++ [snapshotRequest]) s))) :
    Ends i s (readSnapshot k next (issued rs s)) :=
  ends_request _ next hc hr hk hnext

theorem ends_init (s : State) (h : s.seq = 0) : Ends .init s (captureGeometry s) := by
  have hr : CanRequest .init s [] := by simp [CanRequest]
  unfold captureGeometry
  cases hc : s.constructed with
  | true => simpa [issued_nil s h] using ends_fault (c := .alreadyConstructed) hr (by simp [Applies, hc])
  | false => exact ends_success hr ⟨by simpa [issued] using hc, by rw [issued_nil s h]⟩

theorem ends_wrreg (off val : Byte) (s : State) (h : s.seq = 0) (hc : s.constructed = true) :
    Ends (.wrreg off val) s (writeConfig off val s) := by
  unfold writeConfig
  cases ho : offsetValid s.params off with
  | false =>
    have hr : CanRequest (.wrreg off val) s [] := by simp [CanRequest]
    simpa [issued_nil s h] using ends_fault (c := .offsetInvalid off) hr (by simp [Applies, hc, ho])
  | true =>
    have hr : CanRequest (.wrreg off val) s ([] ++ [writeRequest off val]) := by simp [CanRequest, ho]
    have key := ends_request (writtenReply off val s) (fun _ => succeed (resultFlag (.wrreg off val))) hc hr rfl
      fun _ => ends_success hr ⟨hc, rfl⟩
    rwa [issued_nil s h] at key

theorem ends_rdsnap (s : State) (hc : s.constructed = true) : Ends .rdsnap s (copySnapshot (issued [] s)) := by
  have hr : CanRequest .rdsnap s ([] ++ [snapshotRequest]) := by simp [CanRequest]
  exact ends_read hc hr rfl fun S => ends_success hr ⟨hc, S, rfl⟩

theorem ends_count (s : State) (hc : s.constructed = true) : Ends .count s (queryCount (issued [] s)) := by
  have hr : CanRequest .count s ([] ++ [snapshotRequest]) := by simp [CanRequest]
  exact ends_read hc hr rfl fun S => ends_success hr ⟨hc, regByte S .tdStatus, rfl⟩

theorem ends_touched (s : State) (hc : s.constructed = true) : Ends .touched s (queryTouched (issued [] s)) := by
  have hr1 : CanRequest .touched s ([] ++ [snapshotRequest]) := by simp [CanRequest]
  have hp : (issued [] s).params.snapPolicy = s.params.snapPolicy := rfl
  unfold queryTouched
  cases hq : s.params.snapPolicy with
  | single =>
    rw [hp, hq]
    exact ends_read hc hr1 rfl fun S =>
      ends_success hr1 ⟨hc, touchPair (slotTouched S .slot1) (slotTouched S .slot2), rfl⟩
  | perStep =>
    rw [hp, hq]
    have hr2 : CanRequest .touched s (([] ++ [snapshotRequest]) ++ [snapshotRequest]) := by simp [CanRequest, hq]
    exact ends_read hc hr1 rfl fun Sa => ends_read hc hr2 rfl fun Sb =>
      ends_success hr2 ⟨hc, touchPair (slotTouched Sa .slot1) (slotTouched Sb .slot2), rfl⟩

/-- The rotation test ends as `Ends` says if each use of a rotation does. -/
theorem ends_rotation {s : State} {rs : List BusRequest} (use : Rotation → State → State) (hc : s.constructed = true)
    (hr : CanRequest .points s rs) (hl : 1 ≤ rs.length) (huse : ∀ r, Ends .points s (use r (issued rs s))) :
    Ends .points s (whenRotation use (issued rs s)) := by
  unfold whenRotation
  split
  · exact huse _
  · rename_i hn
    exact ends_fault hr (.inr (.inr (.inr (.inr ⟨hc, rfl, hl, rfl, hn⟩))))

theorem ends_finishPoints {s : State} {rs : List BusRequest} (pts : List Point) (hc : s.constructed = true)
    (hr : CanRequest .points s rs) : Ends .points s (finishPoints pts (issued rs s)) :=
  ends_success hr ⟨hc, pts, rfl⟩

theorem ends_points (s : State) (hc : s.constructed = true) : Ends .points s (queryPoints (issued [] s)) := by
  have hr1 : CanRequest .points s ([] ++ [snapshotRequest]) := by simp [CanRequest]
  have hp : (issued [] s).params.snapPolicy = s.params.snapPolicy := rfl
  unfold queryPoints
  cases hq : s.params.snapPolicy with
  | single =>
    rw [hp, hq]
    refine ends_read hc hr1 rfl fun S => ?_
    split
    · refine ends_rotation _ hc hr1 (by simp) fun r => ?_
      split <;> exact ends_finishPoints _ hc hr1
    · exact ends_finishPoints _ hc hr1
  | perStep =>
    rw [hp, hq]
    have hr2 : CanRequest .points s (([] ++ [snapshotRequest]) ++ [snapshotRequest]) := by simp [CanRequest, hq]
    have hr3 : CanRequest .points s ((([] ++ [snapshotRequest]) ++ [snapshotRequest]) ++ [snapshotRequest]) := by
      simp [CanRequest, hq]
    refine ends_read hc hr1 rfl fun Sa => ?_
    split
    · refine ends_read hc hr2 rfl fun Sb => ends_rotation _ hc hr2 (by simp) fun r => ?_
      split
      · exact ends_read hc hr3 rfl fun Sc => ends_finishPoints _ hc hr3
      · exact ends_finishPoints _ hc hr2
    · exact ends_finishPoints _ hc hr1

/-- The work of every accepted command ends as `Ends` says. -/
theorem work_ends (i : Instr) (s : State) (h : s.seq = 0) : Ends i s (work i s) := by
  by_cases hi : i = .init
  · subst hi
    exact ends_init s h
  cases hc : s.constructed with
  | false =>
    have hr : CanRequest i s [] := by simp [CanRequest]
    have key := ends_fault (c := .notConstructed) hr (by simp [Applies, hc, hi])
    rw [issued_nil s h] at key
    cases i with
    | init => exact absurd rfl hi
    | wrreg | rdsnap | touched | count | points => simpa [work, whenConstructed_false _ _ hc] using key
  | true =>
    cases i with
    | init => exact absurd rfl hi
    | wrreg off val => simpa [work, whenConstructed_true _ _ hc] using ends_wrreg off val s h hc
    | rdsnap =>
      have key := ends_rdsnap s hc
      rw [issued_nil s h] at key
      simpa [work, whenConstructed_true _ _ hc] using key
    | touched =>
      have key := ends_touched s hc
      rw [issued_nil s h] at key
      simpa [work, whenConstructed_true _ _ hc] using key
    | count =>
      have key := ends_count s hc
      rw [issued_nil s h] at key
      simpa [work, whenConstructed_true _ _ hc] using key
    | points =>
      have key := ends_points s hc
      rw [issued_nil s h] at key
      simpa [work, whenConstructed_true _ _ hc] using key

end Sys2Proof.Machine
end

