-- ==== Sys2Proof/Laws/Agree.lean ====
section
/-! SUPPORT. Two runs of one operation that differ only in what the bus answers: each shared operation takes states alike but
for the bus to states alike but for the bus. -/

namespace Sys2Proof.Machine

/-- Two replies that are the same, or two snapshots alike in the sense `same`. -/
def RepliesAgree (same : Snapshot → Snapshot → Prop) (r r' : Reply Snapshot) : Prop :=
  r = r' ∨ ∃ S S', r = .answered S ∧ r' = .answered S' ∧ same S S'

theorem repliesAgree_of_answersAgree {same : Snapshot → Snapshot → Prop} {a a' : BusAnswer}
    (h : AnswersAgree same a a') : RepliesAgree same (asSnapshot a) (asSnapshot a') := by
  rcases h with rfl | ⟨S, S', rfl, rfl, hS⟩
  · exact .inl rfl
  · exact .inr ⟨S, S', asSnapshot_toList S, asSnapshot_toList S', hS⟩

theorem sameButBus_iff {s s' : State} : SameButBus s s' ↔ ∃ answers, s' = s.withBus answers :=
  ⟨fun h => ⟨_, h⟩, by rintro ⟨b, rfl⟩; rfl⟩

theorem SameButBus.raise {s s' : State} (c : Cause) (h : SameButBus s s') : SameButBus (raise c s) (raise c s') := by
  obtain ⟨b, rfl⟩ := sameButBus_iff.1 h
  rfl

theorem SameButBus.issue {s s' : State} (k : BitVec 2) (r : BusRequest) (h : SameButBus s s') :
    SameButBus (issue k r s) (issue k r s') := by
  obtain ⟨b, rfl⟩ := sameButBus_iff.1 h
  rfl

theorem SameButBus.succeed {s s' : State} (flag : BitVec 4) (h : SameButBus s s') :
    SameButBus (succeed flag s) (succeed flag s') := by
  obtain ⟨b, rfl⟩ := sameButBus_iff.1 h
  rfl

theorem SameButBus.finishPoints {s s' : State} (pts : List Point) (h : SameButBus s s') :
    SameButBus (finishPoints pts s) (finishPoints pts s') := by
  obtain ⟨b, rfl⟩ := sameButBus_iff.1 h
  unfold Machine.finishPoints deliver
  split <;> rfl

/-- The rotation test looks at the captured angle only. -/
theorem SameButBus.whenRotation {s s' : State} {use use' : Rotation → State → State} (h : SameButBus s s')
    (huse : ∀ r, rotSelect s.rot = some r → SameButBus (use r s) (use' r s')) :
    SameButBus (whenRotation use s) (whenRotation use' s') := by
  obtain ⟨b, rfl⟩ := sameButBus_iff.1 h
  have hrot : (s.withBus b).rot = s.rot := rfl
  unfold Machine.whenRotation
  rw [hrot]
  split
  · rename_i r hr
    exact huse r hr
  · exact h.raise _

/-- A snapshot read ends alike if the two replies agree and what follows them does. -/
theorem SameButBus.readSnapshot {same : Snapshot → Snapshot → Prop} {k : BitVec 2}
    {next next' : Snapshot → State → State} {s s' : State} (h : SameButBus s s')
    (hr : RepliesAgree same (snapshotReply s) (snapshotReply s'))
    (hnext : ∀ S S', snapshotReply s = .answered S → snapshotReply s' = .answered S' → S = S' ∨ same S S' →
      SameButBus (next S (Machine.issue k snapshotRequest s)) (next' S' (Machine.issue k snapshotRequest s'))) :
    SameButBus (readSnapshot k next s) (readSnapshot k next' s') := by
  rcases hr with e | ⟨S, S', e, e', hS⟩
  · cases hx : snapshotReply s with
    | answered S =>
      rw [readSnapshot_answered _ _ hx, readSnapshot_answered _ _ (e ▸ hx)]
      exact hnext _ _ hx (e ▸ hx) (.inl rfl)
    | failed =>
      rw [readSnapshot_failed _ _ hx, readSnapshot_failed _ _ (e ▸ hx)]
      exact (h.issue k _).raise _
    | never =>
      rw [readSnapshot_never _ _ hx, readSnapshot_never _ _ (e ▸ hx)]
      exact h.issue k _
  · rw [readSnapshot_answered _ _ e, readSnapshot_answered _ _ e']
    exact hnext _ _ e e' (.inr hS)

/-- Where the scripts agree answer by answer, so do the replies to the next read. -/
theorem repliesAgree_of_scripts {same : Snapshot → Snapshot → Prop} {s s' : State} (h : SameButBus s s')
    (hb : List.Forall₂ (AnswersAgree same) s.bus s'.bus) :
    RepliesAgree same (snapshotReply s) (snapshotReply s') := by
  have ht : s'.traffic = s.traffic := by rw [h]; rfl
  unfold snapshotReply State.answerTo
  rw [ht]
  generalize s.bus = answers at hb
  generalize s'.bus = answers' at hb
  cases hb with
  | nil => exact .inl rfl
  | cons ha _ => exact repliesAgree_of_answersAgree ha

/-- Issuing a request leaves scripts that agree. -/
theorem scripts_issue {same : Snapshot → Snapshot → Prop} {s s' : State} (k : BitVec 2) (r : BusRequest)
    (hb : List.Forall₂ (AnswersAgree same) s.bus s'.bus) :
    List.Forall₂ (AnswersAgree same) (issue k r s).bus (issue k r s').bus := by
  simp only [issue_bus]
  generalize s.bus = answers at hb
  generalize s'.bus = answers' at hb
  cases hb with
  | nil => exact .nil
  | cons _ hrest => exact hrest

/-- A command other than INIT agrees but for the bus if its work in an idle constructed block does. -/
theorem agreeButBus_of_work {i : Instr} {s : State} {answers answers' : List BusAnswer} (hi : i ≠ .init)
    (h : s.seq = 0 → s.constructed = true →
      SameButBus (work i (accept (s.withBus answers))) (work i (accept (s.withBus answers')))) :
    AgreeButBus (exec i (s.withBus answers)) (exec i (s.withBus answers')) := by
  refine ⟨_, _, exec_eq_work _ _, exec_eq_work _ _, ?_⟩
  by_cases hs : s.seq = 0
  · rw [whenReady_idle _ (s.withBus answers) hs, whenReady_idle _ (s.withBus answers') hs]
    cases hc : s.constructed with
    | true => exact h hs hc
    | false =>
      cases i with
      | init => exact absurd rfl hi
      | wrreg | rdsnap | touched | count | points =>
        simp only [work]
        rw [whenConstructed_false _ (accept (s.withBus answers)) hc,
          whenConstructed_false _ (accept (s.withBus answers')) hc]
        rfl
  · rw [whenReady_busy _ (s.withBus answers) hs, whenReady_busy _ (s.withBus answers') hs]
    rfl

end Sys2Proof.Machine
end

