-- ==== Sys2Proof/Laws/PerInstr.lean ====
section
/-! SUPPORT. A law per command: the word the encoder makes for it is a word of the row of the match and mask list that
bears its mnemonic (`30_encoding.md` R72). -/

namespace Sys2Proof.Laws

/-- The encoder puts a command into its own row of the list. -/
def EncodesInItsRow.Statement (i : Instr) : Prop :=
  ∃ row ∈ opcodeTable, row.mnemonic = i.mnemonic ∧ row.covers (encode i) = true

theorem EncodesInItsRow.init : EncodesInItsRow.Statement .init := ⟨⟨"INIT", 0xFFFFFF, 0x010000⟩, by decide⟩

theorem EncodesInItsRow.wrreg (off val : Byte) : EncodesInItsRow.Statement (.wrreg off val) := by
  refine ⟨⟨"WRREG", 0xFF0000, 0x020000⟩, by decide, rfl, ?_⟩
  have high : (encode (.wrreg off val)) &&& 0xFF0000 = 0x020000 := by
    apply BitVec.eq_of_getLsbD_eq
    intro k hk
    interval_cases k <;> simp [encode]
  simpa [OpcodeRow.covers] using high

theorem EncodesInItsRow.rdsnap : EncodesInItsRow.Statement .rdsnap := ⟨⟨"RDSNAP", 0xFFFFFF, 0x030000⟩, by decide⟩

theorem EncodesInItsRow.touched : EncodesInItsRow.Statement .touched := ⟨⟨"TOUCHED", 0xFFFFFF, 0x040000⟩, by decide⟩

theorem EncodesInItsRow.count : EncodesInItsRow.Statement .count := ⟨⟨"COUNT", 0xFFFFFF, 0x050000⟩, by decide⟩

theorem EncodesInItsRow.points : EncodesInItsRow.Statement .points := ⟨⟨"POINTS", 0xFFFFFF, 0x060000⟩, by decide⟩

/-- No word is a word of two rows (R74: "every word is exactly one of the six commands or illegal"). -/
theorem opcodeTable_rows_disjoint :
    opcodeTable.Pairwise fun a b => (a.pattern ^^^ b.pattern) &&& a.mask &&& b.mask ≠ 0 := by decide

end Sys2Proof.Laws
end

