-- ==== Sys2Proof/Laws/Run.lean ====
section
/-! SUPPORT. The observation of a run, step by step. -/

namespace Sys2Proof.Machine

theorem observe_zero (s : State) : observe 0 s = ⟨[], [], s.seq == 0⟩ := rfl

/-- A step adds what it adds, and the observation goes on from the state it answers. -/
theorem observe_succ {s t : State} (n : Nat) (h : step s = .next t) :
    observe (n + 1) s =
      { responses := endedOperation s t ++ (observe n t).responses
        transactions := newTransactions s t ++ (observe n t).transactions
        ended := (observe n t).ended } := by
  simp only [observe, h]

theorem endedOperation_accepted {s : State} (t : State) (h : acceptsCommand s = true) :
    endedOperation s t = (response t).toList := by
  simp [endedOperation, h]

theorem endedOperation_none {s : State} (t : State) (h : acceptsCommand s = false) : endedOperation s t = [] := by
  simp [endedOperation, h]

@[simp] theorem newTransactions_self (s : State) : newTransactions s s = [] := by
  simp [newTransactions]

theorem newTransactions_append {s t : State} {added : List BusRequest} (h : t.traffic = s.traffic ++ added) :
    newTransactions s t = added := by
  simp [newTransactions, h]

/-- A block presented with a command is ready exactly when it is idle. -/
theorem acceptsCommand_pins {s : State} {p : Presentation} {later : List Inputs} (h : s.inputs = p.pins :: later) :
    acceptsCommand s = (s.seq == 0) := by
  simp [acceptsCommand, presentedWord, h, Presentation.pins]

/-! ## The pins still to come -/

/-- `s` with these pins in the coming steps. -/
def withInputs (s : State) (pins : List Inputs) : State := { s with inputs := pins }

theorem readSnapshot_withInputs {k : BitVec 2} {next : Snapshot → State → State} (s : State) (pins : List Inputs)
    (h : ∀ S u, next S (withInputs u pins) = withInputs (next S u) pins) :
    readSnapshot k next (withInputs s pins) = withInputs (readSnapshot k next s) pins := by
  cases hr : snapshotReply s with
  | answered S =>
    rw [readSnapshot_answered _ _ hr, readSnapshot_answered (s := withInputs s pins) _ _ hr, ← h]
    rfl
  | failed =>
    rw [readSnapshot_failed _ _ hr, readSnapshot_failed (s := withInputs s pins) _ _ hr]
    rfl
  | never =>
    rw [readSnapshot_never _ _ hr, readSnapshot_never (s := withInputs s pins) _ _ hr]
    rfl

theorem finishPoints_withInputs (pts : List Point) (s : State) (pins : List Inputs) :
    finishPoints pts (withInputs s pins) = withInputs (finishPoints pts s) pins := by
  unfold finishPoints deliver
  split <;> rfl

theorem whenRotation_withInputs {use : Rotation → State → State} (s : State) (pins : List Inputs)
    (h : ∀ r u, use r (withInputs u pins) = withInputs (use r u) pins) :
    whenRotation use (withInputs s pins) = withInputs (whenRotation use s) pins := by
  cases hr : rotSelect s.rot with
  | some r => rw [whenRotation_some _ hr, whenRotation_some (s := withInputs s pins) _ hr, h]
  | none =>
    rw [whenRotation_none _ hr, whenRotation_none (s := withInputs s pins) _ hr]
    rfl

theorem queryPoints_withInputs (s : State) (pins : List Inputs) :
    queryPoints (withInputs s pins) = withInputs (queryPoints s) pins := by
  have hp : (withInputs s pins).params = s.params := rfl
  unfold queryPoints
  rw [hp]
  split
  · refine readSnapshot_withInputs s pins fun S u => ?_
    split
    · refine whenRotation_withInputs u pins fun r v => ?_
      split <;> exact finishPoints_withInputs _ v pins
    · exact finishPoints_withInputs _ u pins
  · refine readSnapshot_withInputs s pins fun Sa u => ?_
    split
    · refine readSnapshot_withInputs u pins fun Sb v => whenRotation_withInputs v pins fun r w => ?_
      split
      · exact readSnapshot_withInputs w pins fun Sc x => finishPoints_withInputs _ x pins
      · exact finishPoints_withInputs _ w pins
    · exact finishPoints_withInputs _ u pins

/-- No command looks at the pins still to come. -/
theorem work_withInputs (i : Instr) (s : State) (pins : List Inputs) :
    work i (withInputs s pins) = withInputs (work i s) pins := by
  have hc : (withInputs s pins).constructed = s.constructed := rfl
  have hp : (withInputs s pins).params = s.params := rfl
  cases i with
  | init =>
    simp only [work, captureGeometry, hc]
    split <;> rfl
  | wrreg off val =>
    simp only [work, whenConstructed, writeConfig, writeRegister, hc, hp]
    split
    · split
      · have hr : writtenReply off val (withInputs s pins) = writtenReply off val s := rfl
        rw [hr]
        cases writtenReply off val s <;> rfl
      · rfl
    · rfl
  | rdsnap =>
    simp only [work, whenConstructed, hc]
    split
    · exact readSnapshot_withInputs s pins fun S u => rfl
    · rfl
  | touched =>
    simp only [work, whenConstructed, queryTouched, hc, hp]
    split
    · split
      · exact readSnapshot_withInputs s pins fun S u => rfl
      · exact readSnapshot_withInputs s pins fun Sa u => readSnapshot_withInputs u pins fun Sb v => rfl
    · rfl
  | count =>
    simp only [work, whenConstructed, hc]
    split
    · exact readSnapshot_withInputs s pins fun S u => rfl
    · rfl
  | points =>
    simp only [work, whenConstructed, hc]
    split
    · exact queryPoints_withInputs s pins
    · rfl

/-! ## Run.initial, field by field -/

@[simp] theorem initial_constructed (r : Run) : r.initial.constructed = r.start.constructed := rfl
@[simp] theorem initial_rot (r : Run) : r.initial.rot = r.start.rot := rfl
@[simp] theorem initial_width (r : Run) : r.initial.width = r.start.width := rfl
@[simp] theorem initial_height (r : Run) : r.initial.height = r.start.height := rfl
@[simp] theorem initial_seq (r : Run) : r.initial.seq = r.start.seq := rfl
@[simp] theorem initial_params (r : Run) : r.initial.params = r.start.params := rfl
@[simp] theorem initial_traffic (r : Run) : r.initial.traffic = r.start.traffic := rfl
@[simp] theorem initial_geomPort (r : Run) : r.initial.geomPort = r.start.geomPort := rfl
@[simp] theorem initial_bus (r : Run) : r.initial.bus = r.draws := rfl
@[simp] theorem initial_inputs (r : Run) : r.initial.inputs = r.commands.map Presentation.pins := rfl

end Sys2Proof.Machine
end

