-- ==== Sys2Proof/Tests/Slice0.lean ====
section
/-! SUPPORT. Tests of one step each, their expected values taken from `95_test_vectors.md`, the smoke test of the well-formed
words, and the witnesses: for each statement with hypotheses, concrete values that meet them, clause by clause. -/

namespace Sys2Proof.Tests

open Sys2Proof.Machine

/-! ## Helpers -/

/-- The 189 bytes of a snapshot written as the vectors write it: every offset not listed is 0x00. -/
def bytesOf (listed : List (Nat × Byte)) : List Byte := (List.range 189).map fun i => (listed.lookup i).getD 0

/-- The same as a snapshot. -/
def snapOf (listed : List (Nat × Byte)) : Snapshot := ⟨(bytesOf listed).toArray, by simp [bytesOf]⟩

/-- A bus that answers with such a snapshot. -/
def snap (listed : List (Nat × Byte)) : BusAnswer := .ok (bytesOf listed)

/-- An idle block that is not constructed, with this geometry on its port. -/
def fresh (rot w h : Geom16) : State := { State.reset with geomPort := ⟨rot, w, h⟩ }

/-- An idle constructed block on a 240 by 320 panel at angle `rot`, with this bus script. -/
def ready (rot : Geom16) (policy : SnapPolicy) (bus : List BusAnswer) : State :=
  { State.reset with
    constructed := true, rot := rot, width := 240, height := 320, bus := bus
    params := { defaultParams with snapPolicy := policy } }

/-- `s` with these pins in the coming steps. -/
def withPins (s : State) (pins : List Inputs) : State := { s with inputs := pins }

/-- Pins that present a word, with a geometry unlike the ones captured above. -/
def say (w : CmdWord) : Inputs := ⟨false, some w, ⟨7, 8, 9⟩⟩

/-- Pins that present nothing. -/
def idlePins : Inputs := ⟨false, none, ⟨7, 8, 9⟩⟩

/-- Pins that assert reset while presenting a word. -/
def resetPins : Inputs := ⟨true, some 0x050000, ⟨7, 8, 9⟩⟩

/-- The state after the one step that presents `w`. -/
def stepped (w : CmdWord) (s : State) : Option State :=
  match step (withPins s [⟨false, some w, s.geomPort⟩]) with
  | .next t => some t
  | .fault _ => none
  | .refused _ => none

/-- The response to `w`. -/
def answer (w : CmdWord) (s : State) : Option Response := (stepped w s).bind response

/-- A response without a result: `status` and `finfo` only. -/
def plain (status : Byte) (finfo : BitVec 24) : Response := ⟨status, finfo, none, none, none, none⟩

/-- A successful response with these pairs. -/
def gotPoints (pts : List Point) : Response := ⟨0x00, 0, none, none, none, some pts⟩

theorem reply_snap {s : State} {n : Nat} {listed : List (Nat × Byte)} {later : List BusAnswer}
    (h : s.bus.drop n = snap listed :: later) : replyAfter n s = .answered (snapOf listed) := by
  simp [replyAfter, snapshotReply, State.answerTo, h, snap, asSnapshot, snapOf, bytesOf]

theorem reply_failure {s : State} {n : Nat} {later : List BusAnswer} (h : s.bus.drop n = .failure :: later) :
    replyAfter n s = .failed := by
  simp [replyAfter, snapshotReply, State.answerTo, h, asSnapshot]

theorem reply_never {s : State} {n : Nat} {later : List BusAnswer} (h : s.bus.drop n = .never :: later) :
    replyAfter n s = .never := by
  simp [replyAfter, snapshotReply, State.answerTo, h, asSnapshot]

/-! ## Decoding (`95_test_vectors.md` 2.1; the words written out from R70, R72) -/

theorem test_decode_construction :
    decode 0b00000001_00000000_00000000 = .ok .init ∧
    decode 0b00000010_10000000_00101000 = .ok (.wrreg 0x80 0x28) ∧
    decode 0x020000 = .ok (.wrreg 0x00 0x00) ∧ decode 0x02BCFF = .ok (.wrreg 0xBC 0xFF) ∧
    decode 0x02BD00 = .ok (.wrreg 0xBD 0x00) ∧ decode 0x02FFFF = .ok (.wrreg 0xFF 0xFF) := by decide

theorem test_decode_queries :
    decode 0b00000011_00000000_00000000 = .ok .rdsnap ∧ decode 0b00000100_00000000_00000000 = .ok .touched ∧
    decode 0b00000101_00000000_00000000 = .ok .count ∧ decode 0b00000110_00000000_00000000 = .ok .points := by decide

theorem test_decode_illegal :
    decode 0x000000 = .error .unassignedOpcode ∧ decode 0x000001 = .error .unassignedOpcode ∧
    decode 0x010001 = .error .operandBitsSet ∧ decode 0x030100 = .error .operandBitsSet ∧
    decode 0x060001 = .error .operandBitsSet ∧ decode 0x070000 = .error .unassignedOpcode ∧
    decode 0xFF0000 = .error .unassignedOpcode ∧ decode 0xFFFFFF = .error .unassignedOpcode := by decide

theorem test_decode_table_word :
    decodeTableWord 24 0x060000 = some .points ∧ decodeTableWord 24 0x02BCFF = some (.wrreg 0xBC 0xFF) ∧
    decodeTableWord 24 0x070000 = none := by decide

/-- The smoke test of the well-formedness check: for each row of the list a word it covers and words it refuses. -/
theorem test_wellFormed_smoke :
    [0x010000, 0x020000, 0x02FFFF, 0x030000, 0x040000, 0x050000, 0x060000].all wellFormedWord = true ∧
    [0x000000, 0x010001, 0x010100, 0x018000, 0x030001, 0x038000, 0x040001, 0x040100, 0x050001, 0x050100, 0x060001,
      0x060100, 0x070000, 0x120000, 0x820000, 0xFFFFFF].any wellFormedWord = false := by decide

/-! ## Operands and flags (`95_test_vectors.md` 2.2 to 2.4) -/

theorem test_coord12 :
    coord12 0x00 0x00 = 0 ∧ coord12 0x0F 0xFF = 4095 ∧ coord12 0xFF 0xFF = 4095 ∧ coord12 0x80 0x0A = 10 ∧
    coord12 0x41 0x2C = 300 ∧ coord12 0xC0 0x00 = 0 ∧ coord12 0x10 0x00 = 0 ∧ coord12 0x01 0x00 = 256 ∧
    coord12 0x08 0x00 = 2048 ∧ coord12 0xF0 0x01 = 1 ∧ coord12 0x00 0xFF = 255 ∧ coord12 0x3A 0x5C = 2652 := by decide

theorem test_touchFlag :
    [0x00, 0x3F, 0x40, 0x7F, 0x80, 0xBF].all touchFlag = true ∧
    [0xC0, 0xCF, 0xF0, 0xFF].any touchFlag = false := by decide

theorem test_rotate_inside :
    rotate .deg0 240 320 ⟨10, 20⟩ = ⟨10, 20⟩ ∧ rotate .deg90 240 320 ⟨10, 20⟩ = ⟨300, 10⟩ ∧
    rotate .deg180 240 320 ⟨5, 5⟩ = ⟨235, 315⟩ ∧ rotate .deg270 240 320 ⟨10, 20⟩ = ⟨20, 230⟩ := by decide

theorem test_rotate_corners :
    rotate .deg90 240 320 ⟨4095, 4095⟩ = ⟨-3775, 4095⟩ ∧ rotate .deg180 0 0 ⟨1, 2⟩ = ⟨-1, -2⟩ ∧
    rotate .deg270 0 65535 ⟨4095, 9⟩ = ⟨9, -4095⟩ ∧
    (rotate .deg180 0x80000000 0 ⟨1, 0⟩).x = 0x7FFFFFFF := by decide

theorem test_rotSelect :
    rotSelect 0 = some .deg0 ∧ rotSelect 90 = some .deg90 ∧ rotSelect 180 = some .deg180 ∧
    rotSelect 270 = some .deg270 ∧ rotSelect 45 = none ∧ rotSelect 360 = none ∧ rotSelect 450 = none := by decide

/-- The map of R42 at its edges. -/
theorem test_registerMap :
    registerMap 0x02 = .named .tdStatus ∧ registerMap 0x03 = .named (.xh .slot1) ∧
    registerMap 0x0C = .named (.yl .slot2) ∧ registerMap 0x0E = .named (.misc .slot2) ∧ registerMap 0x0F = .unnamed ∧
    registerMap 0x7F = .unnamed ∧ registerMap 0x80 = .proConfig ∧ registerMap 0xBC = .proConfig ∧
    registerMap 0xBD = .outside ∧ registerMap 0xFF = .outside := by decide

theorem test_offsetValid :
    offsetValid defaultParams 0x00 = true ∧ offsetValid defaultParams 0xBC = true ∧
    offsetValid defaultParams 0xBD = false ∧ offsetValid defaultParams 0xFF = false := by decide

/-! ## One step of each command (`95_test_vectors.md` 2.5 to 2.7) -/

theorem test_init_captures :
    ((stepped 0x010000 (fresh 45 0 65535)).map fun t => (t.constructed, t.rot, t.width, t.height, t.rStatus, t.rValid)) =
      some (true, 45, 0, 65535, 0x00, 0b0000) := by decide +kernel

theorem test_init_twice :
    ((stepped 0x010000 { ready 90 .single [] with geomPort := ⟨180, 1, 1⟩ }).map fun t =>
      (t.rot, t.width, t.rStatus, t.rFinfo, t.traffic)) = some (90, 240, 0x03, 0, []) := by decide +kernel

theorem test_wrreg_writes :
    ((stepped 0x02BCFF (ready 0 .single [.ok []])).map fun t => (t.rStatus, t.rValid, t.traffic)) =
      some (0x00, 0b0000, [.write 0x38 0xBC [0xFF]]) := by decide +kernel

theorem test_wrreg_faults :
    answer 0x02FF00 (fresh 0 1 1) = some (plain 0x02 0) ∧
    answer 0x02BD00 (ready 0 .single []) = some (plain 0x04 0x0000BD) ∧
    answer 0x028028 (ready 0 .single [.failure]) = some (plain 0x05 1) := by decide +kernel

theorem test_rdsnap :
    ((stepped 0x030000 (ready 0 .single [snap [(2, 1), (188, 0xEE)]])).map fun t =>
      (t.rStatus, t.rValid, t.rSnap[0], t.rSnap[2], t.rSnap[187], t.rSnap[188])) =
      some (0x00, 0b0001, 0x00, 0x01, 0x00, 0xEE) := by decide +kernel

theorem test_rdsnap_fails :
    answer 0x030000 (ready 0 .perStep [.failure]) = some (plain 0x05 1) ∧
    answer 0x030000 (ready 0 .single [.ok [1, 2, 3]]) = some (plain 0x05 1) := by decide +kernel

theorem test_touched_single :
    answer 0x040000 (ready 0 .single [snap [(3, 0xC0), (9, 0x40)]]) = some ⟨0x00, 0, none, some 0b10, none, none⟩ ∧
    answer 0x040000 (ready 0 .single [snap [(5, 0xC0), (11, 0xC0)]]) = some ⟨0x00, 0, none, some 0b11, none, none⟩ := by
  decide +kernel

theorem test_touched_perStep :
    answer 0x040000 (ready 0 .perStep [snap [(3, 0x80)], snap [(3, 0xC0), (9, 0xC0)]]) =
      some ⟨0x00, 0, none, some 0b01, none, none⟩ ∧
    answer 0x040000 (ready 0 .perStep [snap [(3, 0x80)], .failure]) = some (plain 0x05 2) := by decide +kernel

theorem test_count_raw :
    answer 0x050000 (ready 0 .single [snap [(2, 0xFF)]]) = some ⟨0x00, 0, none, none, some 255, none⟩ ∧
    answer 0x050000 (ready 0 .single [snap [(2, 0x0F)]]) = some ⟨0x00, 0, none, none, some 15, none⟩ := by decide +kernel

theorem test_count_fails :
    answer 0x050000 (ready 0 .single [.failure]) = some (plain 0x05 1) ∧
    answer 0x050000 (fresh 0 1 1) = some (plain 0x02 0) := by decide +kernel

theorem test_points_single :
    answer 0x060000 (ready 90 .single [snap [(2, 1), (3, 0x80), (4, 0x0A), (5, 0x00), (6, 0x14)]]) =
      some (gotPoints [⟨300, 10⟩]) ∧
    answer 0x060000 (ready 180 .single
      [snap [(2, 2), (3, 0x80), (4, 5), (6, 5), (9, 0x80), (10, 0xF0), (11, 0x11), (12, 0x40)]]) =
      some (gotPoints [⟨235, 315⟩, ⟨0, 0⟩]) ∧
    answer 0x060000 (ready 270 .single [snap [(2, 0xFF), (3, 0xCF), (4, 0xFF), (5, 0xFF), (6, 0xFF)]]) =
      some (gotPoints [⟨4095, -3855⟩, ⟨0, 240⟩]) ∧
    answer 0x060000 (ready 45 .single [snap [(2, 0), (3, 0x80)]]) = some (gotPoints []) ∧
    answer 0x060000 (ready 360 .single [snap [(2, 2)]]) = some (plain 0x06 0x000168) := by decide +kernel

theorem test_points_perStep :
    answer 0x060000 (ready 0 .perStep [snap [(2, 2)], snap [(4, 0x64), (6, 0xC8)], snap [(2, 0), (9, 0xC0)]]) =
      some (gotPoints [⟨100, 200⟩, ⟨0, 0⟩]) ∧
    answer 0x060000 (ready 0 .perStep [snap [(2, 1)], snap [(2, 0), (4, 0x64), (6, 0xC8)]]) =
      some (gotPoints [⟨100, 200⟩]) ∧
    answer 0x060000 (ready 0 .perStep [snap [(2, 2)], snap [(4, 0x64)], .failure]) = some (plain 0x05 3) ∧
    ((stepped 0x060000 (ready 45 .perStep [snap [(2, 1)], snap []])).map fun t =>
      (t.rStatus, t.rFinfo, t.traffic.length)) = some (0x06, 0x2D, 2) := by decide +kernel

theorem test_illegal_word :
    answer 0x060001 (ready 0 .single []) = some (plain 0x01 0x060001) ∧
    answer 0x000000 (fresh 0 1 1) = some (plain 0x01 0) := by decide +kernel

theorem test_hang_has_no_response :
    answer 0x050000 (ready 0 .single [.never]) = none ∧
    ((stepped 0x050000 (ready 0 .single [.never])).map fun t => (t.seq, t.rValid)) = some (1, 0b0000) := by
  decide +kernel

theorem test_withFetchWord :
    (match step (State.reset.withFetchWord 24 0x050000) with
      | .next t => t.rStatus
      | .fault _ => 0xFF
      | .refused _ => 0xFF) = 0x02 := by decide +kernel

/-! ## Witnesses: the encoding and the step -/

theorem witness_EveryWordIsOneCommandOrIllegal :
    decode 0x02BCFF = .ok (.wrreg 0xBC 0xFF) ∧
    (0x00FFFF#24 >>> 16).toNat = 0x00 ∧ 0x07 ≤ (0x070000#24 >>> 16).toNat ∧
    ((0x010001#24 >>> 16).toNat ≠ 0x02 ∧ 0x010001#24 &&& 0x00FFFF ≠ 0) := by decide

theorem witness_StepRunsThePresentedCommand :
    (withPins (fresh 90 240 320) [say 0x010000]).inputs = say 0x010000 :: [] ∧ (say 0x010000).reset = false ∧
    (say 0x010000).cmd = some 0x010000 ∧ decode 0x010000 = .ok .init := by decide

theorem witness_IllegalWordFaultsAtOnce :
    (withPins (ready 0 .single []) [say 0x060001]).inputs = say 0x060001 :: [] ∧ (say 0x060001).reset = false ∧
    (say 0x060001).cmd = some 0x060001 ∧ decode 0x060001 = .error .operandBitsSet ∧
    (withPins (ready 0 .single []) [say 0x060001]).seq = 0 := by decide

/-- A constructed block that has waited since its second request. -/
def hung : State := { ready 0 .perStep [] with seq := 2, traffic := [snapshotRequest, snapshotRequest] }

theorem witness_BusyBlockAcceptsNothing :
    (withPins hung [say 0x060001]).inputs = say 0x060001 :: [] ∧ (say 0x060001).reset = false ∧
    (withPins hung [say 0x060001]).seq ≠ 0 := by decide

theorem witness_NothingPresentedNothingDone :
    ((withPins hung [idlePins]).inputs = idlePins :: [] ∧ idlePins.reset = false ∧ idlePins.cmd = none) ∧
    hung.inputs = [] := by decide

theorem witness_ResetFromAnyPhase :
    (withPins hung [resetPins, idlePins]).inputs = resetPins :: [idlePins] ∧ resetPins.reset = true := by decide

/-! ## Witnesses: INIT and WRREG -/

theorem witness_InitCapturesGeometryOnce :
    ((fresh 45 0 65535).seq = 0 ∧ (fresh 45 0 65535).constructed = false) ∧
    ((ready 90 .single []).seq = 0 ∧ (ready 90 .single []).constructed = true) := by decide

theorem witness_WrregWritesOneByte_tests :
    ((fresh 0 1 1).seq = 0 ∧ (fresh 0 1 1).constructed = false) ∧
    ((ready 0 .single []).seq = 0 ∧ (ready 0 .single []).constructed = true ∧
      offsetValid (ready 0 .single []).params 0xBD = false ∧ offsetValid (ready 0 .single []).params 0xFF = false) := by
  decide

theorem witness_WrregWritesOneByte_answers :
    ((ready 0 .single [.ok []]).seq = 0 ∧ (ready 0 .single [.ok []]).constructed = true ∧
      offsetValid (ready 0 .single [.ok []]).params 0xBC = true ∧
      writtenReply 0xBC 0xFF (ready 0 .single [.ok []]) = .answered ()) ∧
    ((ready 0 .single [.failure]).seq = 0 ∧ (ready 0 .single [.failure]).constructed = true ∧
      offsetValid (ready 0 .single [.failure]).params 0xBC = true ∧
      writtenReply 0xBC 0xFF (ready 0 .single [.failure]) = .failed) ∧
    ((ready 0 .single [.never]).seq = 0 ∧ (ready 0 .single [.never]).constructed = true ∧
      offsetValid (ready 0 .single [.never]).params 0x00 = true ∧
      writtenReply 0x00 0x00 (ready 0 .single [.never]) = .never) := by decide

/-! ## Witnesses: the queries -/

/-- The block `ready rot policy bus` is idle and constructed under `policy`, and meets `P` besides. -/
abbrev Meets (rot : Geom16) (policy : SnapPolicy) (bus : List BusAnswer) (P : State → Prop) : Prop :=
  ((ready rot policy bus).seq = 0 ∧ (ready rot policy bus).constructed = true ∧
    (ready rot policy bus).params.snapPolicy = policy) ∧ P (ready rot policy bus)

/-- The first clause of each statement on a query: idle and not constructed, under either policy. -/
theorem witness_queries_notConstructed :
    ((fresh 0 1 1).seq = 0 ∧ (fresh 0 1 1).constructed = false ∧ (fresh 0 1 1).params.snapPolicy = .single) ∧
    (((fresh 0 1 1).withPolicy .perStep).seq = 0 ∧ ((fresh 0 1 1).withPolicy .perStep).constructed = false ∧
      ((fresh 0 1 1).withPolicy .perStep).params.snapPolicy = .perStep) := by decide

theorem witness_RdsnapCopiesTheSnapshot :
    (Meets 0 .single [snap [(188, 1)]] fun s => replyAfter 0 s = .answered (snapOf [(188, 1)])) ∧
    (Meets 0 .perStep [.failure] fun s => replyAfter 0 s = .failed) :=
  ⟨⟨⟨rfl, rfl, rfl⟩, reply_snap rfl⟩, ⟨rfl, rfl, rfl⟩, reply_failure rfl⟩

theorem witness_TouchFlagIsTheSentinelTest :
    (touchFlag 0xC0 = false ∧ 0xC0#8 >>> 6 = 0b11) ∧ (touchFlag 0xBF = true ∧ 0xBF#8 >>> 6 = 0b10) := by decide

/-- The first read fails under each policy; one read under `single`; under `per_step` the second read fails, is never
answered, is answered. -/
theorem witness_TouchedFromTheHighXBytes :
    (Meets 0 .single [.failure] fun s => replyAfter 0 s = .failed) ∧
    (Meets 0 .perStep [.failure] fun s => replyAfter 0 s = .failed) ∧
    (Meets 0 .single [snap [(3, 0xBF), (9, 0xC0)]] fun s =>
      replyAfter 0 s = .answered (snapOf [(3, 0xBF), (9, 0xC0)])) ∧
    (Meets 0 .perStep [snap [(3, 0xBF)], .failure] fun s =>
      replyAfter 0 s = .answered (snapOf [(3, 0xBF)]) ∧ replyAfter 1 s = .failed) ∧
    (Meets 0 .perStep [snap [(3, 0xBF)], .never] fun s =>
      replyAfter 0 s = .answered (snapOf [(3, 0xBF)]) ∧ replyAfter 1 s = .never) ∧
    (Meets 0 .perStep [snap [(3, 0xBF)], snap [(9, 0xC0)]] fun s =>
      replyAfter 0 s = .answered (snapOf [(3, 0xBF)]) ∧ replyAfter 1 s = .answered (snapOf [(9, 0xC0)])) :=
  ⟨⟨⟨rfl, rfl, rfl⟩, reply_failure rfl⟩, ⟨⟨rfl, rfl, rfl⟩, reply_failure rfl⟩, ⟨⟨rfl, rfl, rfl⟩, reply_snap rfl⟩,
    ⟨⟨rfl, rfl, rfl⟩, reply_snap rfl, reply_failure rfl⟩, ⟨⟨rfl, rfl, rfl⟩, reply_snap rfl, reply_never rfl⟩,
    ⟨rfl, rfl, rfl⟩, reply_snap rfl, reply_snap rfl⟩

theorem witness_CountReturnsTheRawByte :
    (Meets 0 .perStep [snap [(2, 0xFF)]] fun s => replyAfter 0 s = .answered (snapOf [(2, 0xFF)])) ∧
    (Meets 0 .single [snap []] fun s => replyAfter 0 s = .answered (snapOf [])) ∧
    (Meets 0 .single [.failure] fun s => replyAfter 0 s = .failed) :=
  ⟨⟨⟨rfl, rfl, rfl⟩, reply_snap rfl⟩, ⟨⟨rfl, rfl, rfl⟩, reply_snap rfl⟩, ⟨rfl, rfl, rfl⟩, reply_failure rfl⟩

/-! ## Witnesses: POINTS -/

theorem witness_CoordinateLaws :
    (coord12 0xFF 0xFF).toNat = 4095 ∧ coord12 0xC0 0x00 = 0 := by decide

theorem witness_RotationTable :
    rotSelect 0 = some .deg0 ∧ rotSelect 90 = some .deg90 ∧ rotSelect 180 = some .deg180 ∧
    rotSelect 270 = some .deg270 := by decide

/-- The counts at the edges of POINTS's clauses, as the snapshots below carry them. -/
theorem witness_Points_counts :
    (snapOf [])[0x02] = 0 ∧ ((snapOf [(2, 1)])[0x02] = 1 ∧ 1 ≤ (snapOf [(2, 1)])[0x02].toNat) ∧
    2 ≤ (snapOf [(2, 2)])[0x02].toNat ∧ 2 ≤ (snapOf [(2, 0xFF)])[0x02].toNat := by decide +kernel

/-- The read fails; count 0; count 1 and 255 with no angle; count 1, 2 and 255 with one. -/
theorem witness_PointsFromOneSnapshot :
    (Meets 0 .single [.failure] fun s => replyAfter 0 s = .failed) ∧
    (Meets 45 .single [snap []] fun s => replyAfter 0 s = .answered (snapOf [])) ∧
    (Meets 45 .single [snap [(2, 1)]] fun s =>
      replyAfter 0 s = .answered (snapOf [(2, 1)]) ∧ rotSelect s.rot = none) ∧
    (Meets 360 .single [snap [(2, 0xFF)]] fun s =>
      replyAfter 0 s = .answered (snapOf [(2, 0xFF)]) ∧ rotSelect s.rot = none) ∧
    (Meets 270 .single [snap [(2, 1)]] fun s =>
      replyAfter 0 s = .answered (snapOf [(2, 1)]) ∧ rotSelect s.rot = some .deg270) ∧
    (Meets 90 .single [snap [(2, 2)]] fun s =>
      replyAfter 0 s = .answered (snapOf [(2, 2)]) ∧ rotSelect s.rot = some .deg90) ∧
    (Meets 0 .single [snap [(2, 0xFF)]] fun s =>
      replyAfter 0 s = .answered (snapOf [(2, 0xFF)]) ∧ rotSelect s.rot = some .deg0) :=
  ⟨⟨⟨rfl, rfl, rfl⟩, reply_failure rfl⟩, ⟨⟨rfl, rfl, rfl⟩, reply_snap rfl⟩,
    ⟨⟨rfl, rfl, rfl⟩, reply_snap rfl, rfl⟩, ⟨⟨rfl, rfl, rfl⟩, reply_snap rfl, rfl⟩,
    ⟨⟨rfl, rfl, rfl⟩, reply_snap rfl, rfl⟩, ⟨⟨rfl, rfl, rfl⟩, reply_snap rfl, rfl⟩,
    ⟨rfl, rfl, rfl⟩, reply_snap rfl, rfl⟩

theorem witness_PointsFromUpToThreeSnapshots_first :
    (Meets 0 .perStep [.failure] fun s => replyAfter 0 s = .failed) ∧
    (Meets 45 .perStep [snap []] fun s => replyAfter 0 s = .answered (snapOf [])) :=
  ⟨⟨⟨rfl, rfl, rfl⟩, reply_failure rfl⟩, ⟨rfl, rfl, rfl⟩, reply_snap rfl⟩

/-- With count 1 the second read fails, is never answered, comes with no angle, comes with one. -/
theorem witness_PointsFromUpToThreeSnapshots_second :
    (Meets 0 .perStep [snap [(2, 1)], .failure] fun s =>
      replyAfter 0 s = .answered (snapOf [(2, 1)]) ∧ replyAfter 1 s = .failed) ∧
    (Meets 0 .perStep [snap [(2, 1)], .never] fun s =>
      replyAfter 0 s = .answered (snapOf [(2, 1)]) ∧ replyAfter 1 s = .never) ∧
    (Meets 45 .perStep [snap [(2, 1)], snap [(4, 9)]] fun s =>
      replyAfter 0 s = .answered (snapOf [(2, 1)]) ∧ replyAfter 1 s = .answered (snapOf [(4, 9)]) ∧
        rotSelect s.rot = none) ∧
    (Meets 90 .perStep [snap [(2, 1)], snap [(4, 9)]] fun s =>
      replyAfter 0 s = .answered (snapOf [(2, 1)]) ∧ replyAfter 1 s = .answered (snapOf [(4, 9)]) ∧
        rotSelect s.rot = some .deg90) :=
  ⟨⟨⟨rfl, rfl, rfl⟩, reply_snap rfl, reply_failure rfl⟩, ⟨⟨rfl, rfl, rfl⟩, reply_snap rfl, reply_never rfl⟩,
    ⟨⟨rfl, rfl, rfl⟩, reply_snap rfl, reply_snap rfl, rfl⟩, ⟨rfl, rfl, rfl⟩, reply_snap rfl, reply_snap rfl, rfl⟩

/-- With count 2 and 255 the third read fails, is never answered, is answered. -/
theorem witness_PointsFromUpToThreeSnapshots_third :
    (Meets 0 .perStep [snap [(2, 2)], snap [(4, 9)], .failure] fun s =>
      replyAfter 0 s = .answered (snapOf [(2, 2)]) ∧ replyAfter 1 s = .answered (snapOf [(4, 9)]) ∧
        rotSelect s.rot = some .deg0 ∧ replyAfter 2 s = .failed) ∧
    (Meets 180 .perStep [snap [(2, 2)], snap [(4, 9)], .never] fun s =>
      replyAfter 0 s = .answered (snapOf [(2, 2)]) ∧ replyAfter 1 s = .answered (snapOf [(4, 9)]) ∧
        rotSelect s.rot = some .deg180 ∧ replyAfter 2 s = .never) ∧
    (Meets 0 .perStep [snap [(2, 0xFF)], snap [(4, 9)], snap [(9, 8)]] fun s =>
      replyAfter 0 s = .answered (snapOf [(2, 0xFF)]) ∧ replyAfter 1 s = .answered (snapOf [(4, 9)]) ∧
        rotSelect s.rot = some .deg0 ∧ replyAfter 2 s = .answered (snapOf [(9, 8)])) :=
  ⟨⟨⟨rfl, rfl, rfl⟩, reply_snap rfl, reply_snap rfl, rfl, reply_failure rfl⟩,
    ⟨⟨rfl, rfl, rfl⟩, reply_snap rfl, reply_snap rfl, rfl, reply_never rfl⟩,
    ⟨rfl, rfl, rfl⟩, reply_snap rfl, reply_snap rfl, rfl, reply_snap rfl⟩

/-! ## Witnesses: the bus -/

theorem witness_SnapshotAnswerLength :
    (bytesOf [(188, 7)]).length = 189 ∧ (List.replicate 188 (0#8)).length ≠ 189 ∧
    (List.replicate 190 (0#8)).length ≠ 189 := by decide +kernel

/-- A command that makes three requests, one that makes the write, one that makes none. -/
theorem witness_OnlyWholeReadsAndOneByteWrites :
    (∃ t, exec .points (ready 0 .perStep [snap [(2, 2)], snap [], snap []]) = .next t ∧ t.traffic.length = 3) ∧
    (∃ t, exec (.wrreg 0xBC 1) (ready 0 .single [.failure]) = .next t ∧ t.traffic = [.write 0x38 0xBC [1]]) ∧
    (∃ t, exec .init (fresh 0 1 1) = .next t ∧ t.traffic = []) :=
  ⟨⟨_, rfl, by decide +kernel⟩, ⟨_, rfl, by decide +kernel⟩, ⟨_, rfl, by decide +kernel⟩⟩

/-- POINTS that succeeds under `per_step` with the counts 0, 1 and 255, and TOUCHED under `per_step`. -/
theorem witness_TransactionsOfASuccess :
    (∀ rot policy bus, (ready rot policy bus).seq = 0) ∧
    (∃ t, exec .points (ready 45 .perStep [snap []]) = .next t ∧ t.seq = 0 ∧ t.rStatus = 0x00) ∧
    (∃ t, exec .points (ready 0 .perStep [snap [(2, 1)], snap []]) = .next t ∧ t.seq = 0 ∧ t.rStatus = 0x00) ∧
    (∃ t, exec .points (ready 0 .perStep [snap [(2, 0xFF)], snap [], snap []]) = .next t ∧
      t.seq = 0 ∧ t.rStatus = 0x00) ∧
    (∃ t, exec .touched (ready 0 .perStep [snap [], snap []]) = .next t ∧ t.seq = 0 ∧ t.rStatus = 0x00) :=
  ⟨fun _ _ _ => rfl, ⟨_, rfl, by decide +kernel⟩, ⟨_, rfl, by decide +kernel⟩, ⟨_, rfl, by decide +kernel⟩,
    ⟨_, rfl, by decide +kernel⟩⟩

theorem witness_UnansweredRequestHangs :
    ((ready 0 .single [.never]).seq = 0 ∧ (ready 0 .single [.never]).constructed = true) ∧
    (firstRequest .count = some snapshotRequest ∧ (ready 0 .single [.never]).answerTo snapshotRequest = .never) ∧
    (firstRequest (.wrreg 0xBC 1) = some (writeRequest 0xBC 1) ∧
      offsetValid (ready 0 .single [.never]).params 0xBC = true ∧
      (ready 0 .single [.never]).answerTo (writeRequest 0xBC 1) = .never) := by decide

theorem witness_HangLastsUntilReset :
    (withPins hung [say 0x010000, say 0xFFFFFF, resetPins]).seq ≠ 0 ∧
    ∀ p ∈ (withPins hung [say 0x010000, say 0xFFFFFF, resetPins]).inputs.take 2, p.reset = false := by decide

/-! ## Witnesses: faults, flags and frames -/

theorem witness_NotConstructedComesFirst :
    (Instr.wrreg 0xFF 0 ≠ .init) ∧ (fresh 0 1 1).seq = 0 ∧ (fresh 0 1 1).constructed = false := by decide

/-- Each of the three ends of a command: success, fault, wait. -/
theorem witness_EveryCommandEndsOrWaits :
    (ready 0 .single [snap []]).seq = 0 ∧
    (∃ t, exec .count (ready 0 .single [snap []]) = .next t ∧ t.rValid = vCount) ∧
    (∃ t, exec .count (ready 0 .single [.failure]) = .next t ∧ t.rStatus = 0x05) ∧
    (∃ t, exec .count (ready 0 .single [.never]) = .next t ∧ t.seq = 1) :=
  ⟨by decide, ⟨_, rfl, by decide +kernel⟩, ⟨_, rfl, by decide +kernel⟩, ⟨_, rfl, by decide +kernel⟩⟩

/-- A fault after two reads, and a wait: neither is a success. -/
theorem witness_FaultsAreAllOrNothing :
    (ready 45 .perStep [snap [(2, 1)], snap []]).seq = 0 ∧
    (∃ t, exec .points (ready 45 .perStep [snap [(2, 1)], snap []]) = .next t ∧ ¬ (t.seq = 0 ∧ t.rStatus = 0x00)) ∧
    (∃ t, exec .points (ready 0 .perStep [snap [(2, 1)], .never]) = .next t ∧ ¬ (t.seq = 0 ∧ t.rStatus = 0x00)) :=
  ⟨by decide, ⟨_, rfl, by decide +kernel⟩, ⟨_, rfl, by decide +kernel⟩⟩

/-- Each clause of the frame: a command other than the register's own answers a next state. -/
theorem witness_CommandFrames :
    (∃ t, exec .count (ready 0 .single [snap []]) = .next t ∧ Instr.count ≠ .rdsnap ∧ Instr.count ≠ .touched ∧
      Instr.count ≠ .points ∧ Instr.count ≠ .init ∧ t.rStatus = 0x00) ∧
    (∃ t, exec .rdsnap (ready 0 .single [snap []]) = .next t ∧ Instr.rdsnap ≠ .count ∧ t.rStatus = 0x00) ∧
    (∃ t, exec .init (fresh 0 1 1) = .next t ∧ t.rStatus = 0x00) :=
  ⟨⟨_, rfl, by decide +kernel⟩, ⟨_, rfl, by decide +kernel⟩, ⟨_, rfl, by decide +kernel⟩⟩

/-- Both ways the lifecycle bit can change. -/
theorem witness_LifecycleOnlyByInitAndReset :
    (∃ t, step (withPins (fresh 0 1 1) [say 0x010000]) = .next t ∧
      t.constructed ≠ (withPins (fresh 0 1 1) [say 0x010000]).constructed) ∧
    (∃ t, step (withPins hung [resetPins]) = .next t ∧ t.constructed ≠ (withPins hung [resetPins]).constructed) :=
  ⟨⟨_, rfl, by decide +kernel⟩, ⟨_, rfl, by decide +kernel⟩⟩

/-- A constructed block to which INIT is presented again, with another geometry on the port. -/
theorem witness_GeometryIsCaptured :
    (∃ t, step (withPins (ready 90 .single []) [say 0x010000]) = .next t ∧ t.rStatus = 0x03) ∧
    (withPins (ready 90 .single []) [say 0x010000]).constructed = true ∧
    resetAsserted (withPins (ready 90 .single []) [say 0x010000]) = false :=
  ⟨⟨_, rfl, by decide +kernel⟩, by decide, by decide⟩

/-- A block that holds two points, and one that holds one: both branches of each read. -/
theorem witness_ReadsNeedTheirFlag :
    readX { ready 0 .single [] with rValid := vPts, rNpts := 1, rX := #v[5, 6] } 0 = .ok 5 ∧
    readX { ready 0 .single [] with rValid := vPts, rNpts := 1, rX := #v[5, 6] } 1 = .error (.noValue (.x 1)) ∧
    readY { ready 0 .single [] with rValid := vPts, rNpts := 2, rY := #v[5, 6] } 1 = .ok 6 ∧
    readCount { ready 0 .single [] with rValid := vCount, rCount := 9 } = .ok 9 ∧
    readCount { ready 0 .single [] with rValid := vTouch, rCount := 9 } = .error (.noValue .count) := by decide

/-- A block that holds a count and then waits in a TOUCHED. -/
theorem witness_OldResultsAreUnreadable :
    (ready 0 .single [.never]).seq = 0 ∧
    readCount { ready 0 .single [.never] with rValid := vCount, rCount := 9 } = .ok 9 ∧
    (∃ t, exec .touched { ready 0 .single [.never] with rValid := vCount, rCount := 9 } = .next t ∧ t.seq = 1) :=
  ⟨rfl, by decide, ⟨_, rfl, by decide +kernel⟩⟩

/-! ## Witnesses: what a result depends on -/

/-- Two snapshots that differ in every byte that is not interpreted between 0x00 and 0x0F, and in bits 5..4 and 7..4 of
those that are. -/
def loudA : Snapshot := snapOf [(2, 2), (3, 0x8A), (4, 1), (5, 0x0B), (6, 2), (9, 0x4C), (10, 3), (11, 0x0D), (12, 4)]

/-- See `loudA`. -/
def loudB : Snapshot := snapOf
  [(0, 1), (1, 1), (2, 2), (3, 0xBA), (4, 1), (5, 0xFB), (6, 2), (7, 9), (8, 9), (9, 0x7C), (10, 3), (11, 0xFD), (12, 4),
   (13, 9), (14, 9), (188, 9)]

/-- Three answers of a per_step POINTS: the first two differ in all that is not interpreted, the third is the same failure. -/
theorem witness_UninterpretedBytesDoNotMatter :
    Instr.points ≠ .rdsnap ∧ loudA ≠ loudB ∧ SameInterpreted loudA loudB ∧
    List.Forall₂ (AnswersAgree SameInterpreted)
      [.ok loudA.toList, .ok loudB.toList, .failure] [.ok loudB.toList, .ok loudA.toList, .failure] := by
  have h : SameInterpreted loudA loudB := by unfold SameInterpreted; decide +kernel
  have h' : SameInterpreted loudB loudA := by unfold SameInterpreted; decide +kernel
  exact ⟨by decide, by decide +kernel, h,
    .cons (.inr ⟨_, _, rfl, rfl, h⟩) (.cons (.inr ⟨_, _, rfl, rfl, h'⟩) (.cons (.inl rfl) .nil))⟩

/-- COUNT: two snapshots that agree in the count only. -/
theorem witness_QueriesReadOnlyTheirSignal_count :
    AnswersAgree (fun S S' => S[0x02] = S'[0x02]) (.ok (snapOf [(2, 7), (3, 0xC0)]).toList)
      (.ok (snapOf [(2, 7), (4, 1)]).toList) :=
  .inr ⟨_, _, rfl, rfl, by decide +kernel⟩

/-- TOUCHED: under `single` two snapshots that agree in the flags and not in the count; under `per_step` slot 1's flag of a
first and slot 2's flag of a second, at the edge bytes 0xBF and 0xC0. -/
theorem witness_QueriesReadOnlyTheirSignal_touched :
    ((ready 0 .single []).params.snapPolicy = .single ∧
      AnswersAgree (fun S S' => touchFlag S[0x03] = touchFlag S'[0x03] ∧ touchFlag S[0x09] = touchFlag S'[0x09])
        (.ok (snapOf [(2, 7), (3, 0xC0)]).toList) (.ok (snapOf [(3, 0xFF), (4, 1)]).toList)) ∧
    ((ready 0 .perStep []).params.snapPolicy = .perStep ∧
      AnswersAgree (fun S S' => touchFlag S[0x03] = touchFlag S'[0x03])
        (.ok (snapOf [(3, 0xBF), (9, 0xC0)]).toList) (.ok (snapOf []).toList) ∧
      AnswersAgree (fun S S' => touchFlag S[0x09] = touchFlag S'[0x09])
        (.ok (snapOf [(9, 0xC0)]).toList) (.ok (snapOf [(3, 0xFF), (9, 0xFF)]).toList)) :=
  ⟨⟨rfl, .inr ⟨_, _, rfl, rfl, by decide +kernel⟩⟩, rfl, .inr ⟨_, _, rfl, rfl, by decide +kernel⟩,
    .inr ⟨_, _, rfl, rfl, by decide +kernel⟩⟩

/-- POINTS under `single`: the count selects slot 1 only, and both slots. -/
theorem witness_QueriesReadOnlyTheirSignal_points_single :
    (ready 0 .single []).params.snapPolicy = .single ∧
    AnswersAgree (fun S S' => S[0x02] = S'[0x02] ∧
        (1 ≤ S[0x02].toNat → rawPoint S .slot1 = rawPoint S' .slot1) ∧
        (2 ≤ S[0x02].toNat → rawPoint S .slot2 = rawPoint S' .slot2))
      (.ok (snapOf [(2, 1), (10, 5)]).toList) (.ok (snapOf [(2, 1), (3, 0xC0)]).toList) ∧
    AnswersAgree (fun S S' => S[0x02] = S'[0x02] ∧
        (1 ≤ S[0x02].toNat → rawPoint S .slot1 = rawPoint S' .slot1) ∧
        (2 ≤ S[0x02].toNat → rawPoint S .slot2 = rawPoint S' .slot2))
      (.ok loudA.toList) (.ok loudB.toList) :=
  ⟨rfl, .inr ⟨_, _, rfl, rfl, by decide +kernel⟩, .inr ⟨_, _, rfl, rfl, by decide +kernel⟩⟩

/-- POINTS under `per_step`: with count 1 second snapshots that agree in slot 1 and third answers that differ; with count 2
third snapshots that agree in slot 2. -/
theorem witness_QueriesReadOnlyTheirSignal_points_perStep :
    (ready 0 .perStep []).params.snapPolicy = .perStep ∧
    (AnswersAgree (fun S S' => S[0x02] = S'[0x02]) (.ok (snapOf [(2, 1)]).toList) (.ok (snapOf [(2, 1), (4, 9)]).toList) ∧
      1 ≤ (snapOf [(2, 1)])[0x02].toNat ∧ ¬ 2 ≤ (snapOf [(2, 1)])[0x02].toNat ∧
      AnswersAgree (fun S S' => rawPoint S .slot1 = rawPoint S' .slot1)
        (.ok (snapOf [(4, 9)]).toList) (.ok (snapOf [(2, 5), (3, 0xC0), (4, 9)]).toList)) ∧
    (AnswersAgree (fun S S' => S[0x02] = S'[0x02]) (.ok (snapOf [(2, 2)]).toList) (.ok (snapOf [(2, 2), (4, 9)]).toList) ∧
      2 ≤ (snapOf [(2, 2)])[0x02].toNat ∧
      AnswersAgree (fun S S' => rawPoint S .slot2 = rawPoint S' .slot2)
        (.ok (snapOf [(10, 9)]).toList) (.ok (snapOf [(2, 5), (9, 0xC0), (10, 9)]).toList)) :=
  ⟨rfl, ⟨.inr ⟨_, _, rfl, rfl, by decide +kernel⟩, by decide +kernel, by decide +kernel,
      .inr ⟨_, _, rfl, rfl, by decide +kernel⟩⟩,
    .inr ⟨_, _, rfl, rfl, by decide +kernel⟩, by decide +kernel, .inr ⟨_, _, rfl, rfl, by decide +kernel⟩⟩

/-- An idle block with the traces of an earlier fault and of an earlier result, beside `ready` without them. -/
def used : State :=
  { ready 90 .single [snap [(2, 1)]] with
    rStatus := 0x05, rFinfo := 1, rCount := 7, rX := #v[1, 2], rSnap := loudA }

theorem witness_NothingSurvivesAnOperation :
    used ≠ ready 90 .single [snap [(2, 1)]] ∧ used.seq = 0 ∧ (ready 90 .single [snap [(2, 1)]]).seq = 0 ∧
    used.constructed = (ready 90 .single [snap [(2, 1)]]).constructed ∧
    used.rot = (ready 90 .single [snap [(2, 1)]]).rot ∧ used.width = (ready 90 .single [snap [(2, 1)]]).width ∧
    used.height = (ready 90 .single [snap [(2, 1)]]).height ∧
    used.params = (ready 90 .single [snap [(2, 1)]]).params ∧
    used.geomPort = (ready 90 .single [snap [(2, 1)]]).geomPort ∧ used.bus = (ready 90 .single [snap [(2, 1)]]).bus ∧
    used.traffic = (ready 90 .single [snap [(2, 1)]]).traffic := by decide +kernel

theorem witness_PerStepIncludesSingle :
    (ready 90 .single [snap [(2, 2)]]).params.snapPolicy = .single ∧
    (∃ t, exec .points (ready 90 .single [snap [(2, 2)]]) = .next t ∧ t.rNpts = 2) :=
  ⟨by decide, ⟨_, rfl, by decide +kernel⟩⟩

/-! ## Witnesses: the bus's answers, the offsets and the response -/

/-- A script with an answer left after two reads, one used up by one read, one with a first answer, and none. -/
theorem witness_RepliesAreTheBusAnswers :
    (ready 0 .perStep [.ok [], .never, .failure]).bus.drop 2 = [.failure] ∧
    (ready 0 .perStep [.ok []]).bus.drop 1 = [] ∧
    (ready 0 .single [.failure, .never]).bus = .failure :: [.never] ∧ (ready 0 .single []).bus = [] :=
  ⟨rfl, rfl, rfl, rfl⟩

theorem witness_ValidOffsetsAreTheRanges :
    offsetValid ⟨.single, [⟨0x80, 0x82⟩, ⟨0x90, 0x90⟩]⟩ 0x80 = true ∧
    offsetValid ⟨.single, [⟨0x80, 0x82⟩, ⟨0x90, 0x90⟩]⟩ 0x82 = true ∧
    offsetValid ⟨.single, [⟨0x80, 0x82⟩, ⟨0x90, 0x90⟩]⟩ 0x90 = true ∧
    offsetValid ⟨.single, [⟨0x80, 0x82⟩, ⟨0x90, 0x90⟩]⟩ 0x83 = false ∧ offsetValid ⟨.single, []⟩ 0x80 = false := by
  decide

/-- A waiting block; an idle block with one pair. -/
theorem witness_ResponseIsWhatCanBeRead :
    (hung.seq ≠ 0 ∧ response hung = none) ∧
    ({ ready 0 .single [] with rValid := vPts, rNpts := 1, rX := #v[5, 6], rY := #v[7, 8] } : State).seq = 0 ∧
    response { ready 0 .single [] with rValid := vPts, rNpts := 1, rX := #v[5, 6], rY := #v[7, 8] } =
      some (gotPoints [⟨5, 7⟩]) :=
  ⟨⟨by decide, rfl⟩, rfl, by decide +kernel⟩

/-! ## Witnesses: the invariant -/

/-- A legal state that is not the reset state: a `per_step` block after a transport failure of a third read, waiting in the
second read of the operation after it. -/
theorem witness_EveryStepKeepsInv :
    State.Inv { hung with rStatus := 0x05, rFinfo := 3, rNpts := 2 } ∧
    (∃ t, step { hung with rStatus := 0x05, rFinfo := 3, rNpts := 2 } = .next t ∧ t.seq = 2) := by
  refine ⟨?_, _, rfl, by decide +kernel⟩
  constructor <;> simp [hung, ready, defaultParams, State.reset]

/-! ## Witnesses: runs -/

/-- Program 1 of `95_test_vectors.md`: INIT, then POINTS. -/
def program1 : Run :=
  { start := State.reset
    commands := [⟨0x010000, ⟨90, 240, 320⟩⟩, ⟨0x060000, ⟨0, 0, 0⟩⟩]
    draws := [snap [(2, 1), (3, 0x80), (4, 0x0A), (5, 0x00), (6, 0x14)]] }

/-- Its outcome as the spec lists it: two responses, the first of which the final state no longer shows, and one read. -/
theorem test_program1_outcome :
    program1.outcome = ⟨[plain 0x00 0, gotPoints [⟨300, 10⟩]], [.read 0x38 0x00 189], true⟩ := by decide +kernel

/-- The first command's operation ends. -/
theorem witness_RunOutcomeCommandByCommand_ends :
    (ready 0 .single []).seq = 0 ∧
    ∃ t, step (Run.initial ⟨ready 0 .single [], [⟨0x050000, ⟨0, 0, 0⟩⟩], [.failure]⟩) = .next t ∧ t.seq = 0 :=
  ⟨rfl, _, rfl, by decide +kernel⟩

/-- The first command's operation hangs: no response, one read, no end, and the command after it is not accepted. -/
theorem witness_RunOutcomeCommandByCommand_hangs :
    (ready 0 .single []).seq = 0 ∧
    (∃ t, step (Run.initial ⟨ready 0 .single [], [⟨0x050000, ⟨0, 0, 0⟩⟩], [.never]⟩) = .next t ∧ t.seq ≠ 0) ∧
    Run.outcome ⟨ready 0 .single [], [⟨0x050000, ⟨0, 0, 0⟩⟩, ⟨0x040000, ⟨0, 0, 0⟩⟩], [.never, .failure]⟩ =
      ⟨[], [.read 0x38 0x00 189], false⟩ :=
  ⟨rfl, ⟨_, rfl, by decide +kernel⟩, by decide +kernel⟩

theorem witness_OneResponseForEachCommand :
    program1.start.seq = 0 ∧ program1.outcome.ended = true ∧ program1.outcome.responses.length = 2 := by decide +kernel

theorem witness_RunsForgetEarlierResults :
    used ≠ ready 90 .single [snap [(2, 1)]] ∧ used.seq = 0 ∧ (ready 90 .single [snap [(2, 1)]]).seq = 0 ∧
    used.constructed = (ready 90 .single [snap [(2, 1)]]).constructed ∧
    used.rot = (ready 90 .single [snap [(2, 1)]]).rot ∧ used.width = (ready 90 .single [snap [(2, 1)]]).width ∧
    used.height = (ready 90 .single [snap [(2, 1)]]).height ∧
    used.params = (ready 90 .single [snap [(2, 1)]]).params ∧
    used.traffic = (ready 90 .single [snap [(2, 1)]]).traffic := by decide +kernel

end Sys2Proof.Tests
end

section
/-! The valid offsets (`00_scope.md` R5, `40_construction_and_config.md` R105): what the offset check decides, for every
choice of `VALID_OFFSETS` and for the default one. -/

namespace Sys2Proof.Machine

/-- The one place where the check is unfolded, in the order of the bytes as words. -/
theorem offsetValid_iff_exists_range (p : Params) (off : Byte) :
    offsetValid p off = true ↔ ∃ r ∈ p.validOffsets, r.first ≤ off ∧ off ≤ r.last := by
  simp only [offsetValid, List.any_eq_true, Bool.and_eq_true, decide_eq_true_eq]

/-- Settles O48: the check is a search of the list, and words are ordered as the numbers they stand for (R6). -/
theorem validOffsetsAreTheRanges : Obligations.ValidOffsetsAreTheRanges := by
  intro p off
  simpa only [BitVec.le_def] using offsetValid_iff_exists_range p off

/-- Settles O13: the default list is the single range from `BLOCK_BASE`, which is 0 and bounds nothing, to `BLOCK_LAST`. -/
theorem defaultValidOffsets : Obligations.DefaultValidOffsets := by
  intro off
  have first_le : blockBase.toNat ≤ off.toNat := Nat.zero_le _
  have last_eq : blockLast.toNat = 0xBC := rfl
  calc offsetValid defaultParams off = true
      ↔ ∃ r ∈ defaultParams.validOffsets, r.first.toNat ≤ off.toNat ∧ off.toNat ≤ r.last.toNat :=
        validOffsetsAreTheRanges defaultParams off
    _ ↔ blockBase.toNat ≤ off.toNat ∧ off.toNat ≤ blockLast.toNat := by
        simp only [defaultParams, List.mem_singleton, exists_eq_left]
    _ ↔ off.toNat ≤ 0xBC := by rw [last_eq, and_iff_right first_le]

end Sys2Proof.Machine
end

section
/-! What an accepted command leaves behind, read off `Ends`: its bus requests, its frame (`10_state.md` R10) and its three
ends (R19 to R21). -/

namespace Sys2Proof.Machine

/-! ## Requests issued -/

@[simp] theorem issued_rValid (rs : List BusRequest) (s : State) : (issued rs s).rValid = s.rValid := rfl

/-- The two bits of `SEQ` count one to three requests without wrapping to idle (R17). -/
theorem phase_ne_zero {n : Nat} (h1 : 1 ≤ n) (h3 : n ≤ 3) : BitVec.ofNat 2 n ≠ 0 := by
  interval_cases n <;> decide

/-- Under `single` an operation is in phase 1 at most (R18). -/
theorem phase_le_one {n : Nat} (h : n ≤ 1) : BitVec.ofNat 2 n ≤ 1 := by
  interval_cases n <;> decide

/-! ## A command's own result -/

/-- A result is written into the result, lifecycle and geometry registers alone: status, flags, phase, bus, parameters
and pins are as they were. -/
theorem WritesOwnResult.outside {i : Instr} {s t : State} (h : WritesOwnResult i s t) :
    t.seq = s.seq ∧ t.rValid = s.rValid ∧ t.traffic = s.traffic ∧ t.bus = s.bus ∧ t.params = s.params ∧
      t.inputs = s.inputs ∧ t.geomPort = s.geomPort := by
  cases i with
  | init => obtain ⟨-, rfl⟩ := h; simp
  | wrreg off val => obtain ⟨-, rfl⟩ := h; simp
  | rdsnap => obtain ⟨-, S, rfl⟩ := h; simp
  | touched => obtain ⟨-, v, rfl⟩ := h; simp
  | count => obtain ⟨-, v, rfl⟩ := h; simp
  | points => obtain ⟨-, pts, rfl⟩ := h; simp

/-- Only a constructed driver has results, INIT's own being that it is constructed. -/
theorem WritesOwnResult.constructed {i : Instr} {s t : State} (h : WritesOwnResult i s t) : t.constructed = true := by
  cases i with
  | init => obtain ⟨-, rfl⟩ := h; rfl
  | wrreg off val => obtain ⟨hc, rfl⟩ := h; exact hc
  | rdsnap => obtain ⟨hc, S, rfl⟩ := h; exact hc
  | touched => obtain ⟨hc, v, rfl⟩ := h; exact hc
  | count => obtain ⟨hc, v, rfl⟩ := h; exact hc
  | points => obtain ⟨hc, pts, rfl⟩ := h; simpa using hc

/-- The lifecycle and geometry registers of `t` are those of `s`. -/
def SameLifecycle (s t : State) : Prop :=
  t.constructed = s.constructed ∧ t.rot = s.rot ∧ t.width = s.width ∧ t.height = s.height

theorem SameLifecycle.refl (s : State) : SameLifecycle s s := ⟨rfl, rfl, rfl, rfl⟩

/-- The columns "written by" of R10: `t` has every result, lifecycle and geometry register of `s` but the command's own. -/
def KeepsOthers (i : Instr) (s t : State) : Prop :=
  (i ≠ .rdsnap → t.rSnap = s.rSnap) ∧ (i ≠ .touched → t.rTouch = s.rTouch) ∧ (i ≠ .count → t.rCount = s.rCount) ∧
  (i ≠ .points → t.rNpts = s.rNpts ∧ t.rX = s.rX ∧ t.rY = s.rY) ∧
  (i ≠ .init → SameLifecycle s t)

theorem KeepsOthers.refl (i : Instr) (s : State) : KeepsOthers i s s := by simp [KeepsOthers, SameLifecycle]

theorem WritesOwnResult.keepsOthers {i : Instr} {s t : State} (h : WritesOwnResult i s t) : KeepsOthers i s t := by
  cases i with
  | init => obtain ⟨-, rfl⟩ := h; simp [KeepsOthers, SameLifecycle]
  | wrreg off val => obtain ⟨-, rfl⟩ := h; exact .refl _ _
  | rdsnap => obtain ⟨-, S, rfl⟩ := h; simp [KeepsOthers, SameLifecycle]
  | touched => obtain ⟨-, v, rfl⟩ := h; simp [KeepsOthers, SameLifecycle]
  | count => obtain ⟨-, v, rfl⟩ := h; simp [KeepsOthers, SameLifecycle]
  | points => obtain ⟨-, pts, rfl⟩ := h; simp [KeepsOthers, SameLifecycle]

/-- `R_NPTS` stays in its range: POINTS delivers at most two pairs, no other command writes it (R24). -/
theorem WritesOwnResult.rNpts_le {i : Instr} {s t : State} (h : WritesOwnResult i s t) (hs : s.rNpts ≤ 2) :
    t.rNpts ≤ 2 := by
  by_cases hi : i = .points
  · subst hi
    obtain ⟨-, pts, rfl⟩ := h
    exact deliver_rNpts_le pts s
  · obtain ⟨-, -, -, hpoints, -⟩ := h.keepsOthers
    rwa [(hpoints hi).1]

/-! ## The end of a command -/

/-- A command accepted by an idle block ends as `Ends` says, from the state that acceptance leaves. -/
theorem exec_ends {i : Instr} {s t : State} (hs : s.seq = 0) (h : exec i s = .next t) : Ends i (accept s) t := by
  rw [exec_eq_work, whenReady_idle _ _ hs, Host.Outcome.next.injEq] at h
  exact h ▸ work_ends i (accept s) hs

/-- However a command ends, its requests have been appended to the traffic and as many answers used up. -/
theorem Ends.requests {i : Instr} {s t : State} (h : Ends i s t) :
    ∃ rs, CanRequest i s rs ∧ t.traffic = s.traffic ++ rs ∧ t.bus = s.bus.drop rs.length := by
  obtain ⟨rs, hr, ⟨c, -, rfl⟩ | ⟨-, -, rfl⟩ | ⟨u, hu, rfl⟩⟩ := h
  · exact ⟨rs, hr, rfl, rfl⟩
  · exact ⟨rs, hr, rfl, rfl⟩
  · obtain ⟨-, -, htraffic, hbus, -⟩ := hu.outside
    exact ⟨rs, hr, htraffic, hbus⟩

/-- However a command ends, it has written none but its own registers, and neither parameters nor pins. -/
theorem Ends.frame {i : Instr} {s t : State} (h : Ends i s t) :
    KeepsOthers i s t ∧ t.params = s.params ∧ t.inputs = s.inputs ∧ t.geomPort = s.geomPort := by
  obtain ⟨rs, -, ⟨c, -, rfl⟩ | ⟨-, -, rfl⟩ | ⟨u, hu, rfl⟩⟩ := h
  · exact ⟨.refl i s, rfl, rfl, rfl⟩
  · exact ⟨.refl i s, rfl, rfl, rfl⟩
  · obtain ⟨-, -, -, -, hparams, hinputs, hgeom⟩ := hu.outside
    exact ⟨hu.keepsOthers, hparams, hinputs, hgeom⟩

/-- The fault of an accepted command is one of the codes 0x02 to 0x06: ILLEGAL_COMMAND is of words that are no command. -/
theorem Applies.code_range {i : Instr} {s : State} {n : Nat} {c : Cause} (h : Applies i s n c) :
    0x02 ≤ c.code ∧ c.code ≤ 0x06 := by
  cases c with
  | illegalCommand w => simp [Applies] at h
  | notConstructed | alreadyConstructed | offsetInvalid | transportFailure | rotationInvalid => simp [Cause.code]

/-- The three ends in terms of the status registers, the flags and the phase (R19, R20, R21). -/
theorem Ends.outcome {i : Instr} {s t : State} (h : Ends i s t) (hv : s.rValid = 0) :
    (t.seq = 0 ∧ t.rStatus = 0x00 ∧ t.rFinfo = 0 ∧ t.rValid = resultFlag i) ∨
    (t.seq = 0 ∧ 0x02 ≤ t.rStatus ∧ t.rStatus ≤ 0x06 ∧ t.rValid = 0b0000) ∨
    (t.seq ≠ 0 ∧ t.rStatus = s.rStatus ∧ t.rFinfo = s.rFinfo ∧ t.rValid = 0b0000) := by
  obtain ⟨rs, hr, ⟨c, hc, rfl⟩ | ⟨-, hne, rfl⟩ | ⟨u, hu, rfl⟩⟩ := h
  · obtain ⟨hlow, hhigh⟩ := hc.code_range
    exact .inr (.inl ⟨rfl, hlow, hhigh, hv⟩)
  · have hpos : 1 ≤ rs.length := List.length_pos_iff.mpr hne
    exact .inr (.inr ⟨phase_ne_zero hpos hr.1, rfl, rfl, hv⟩)
  · obtain ⟨-, hvalid, -⟩ := hu.outside
    exact .inl ⟨rfl, rfl, rfl, by simp [hvalid, hv]⟩

end Sys2Proof.Machine
end

section
/-! The invariant (`10_state.md` R10 to R31, `60_exceptions.md` R170): the reset state and the reset event meet it, and each
way a step can go keeps it. -/

namespace Sys2Proof.Machine

/-- The fault `c` is one that R170 and R173 allow in a block with the registers of `s`. -/
def Cause.Fits (c : Cause) (s : State) : Prop :=
  match c with
  | .illegalCommand w => ∀ i, decode w ≠ .ok i
  | .notConstructed => s.constructed = false
  | .alreadyConstructed => s.constructed = true
  | .offsetInvalid off => s.constructed = true ∧ offsetValid s.params off = false
  | .transportFailure k => s.constructed = true ∧ k ≠ 0 ∧ (s.params.snapPolicy = .single → k = 1)
  | .rotationInvalid rot => s.constructed = true ∧ rot = s.rot ∧ rotSelect rot = none

/-- Every fault an accepted command can raise after requests it can make fits. -/
theorem Applies.fits {i : Instr} {s : State} {rs : List BusRequest} {c : Cause} (h : Applies i s rs.length c)
    (hr : CanRequest i s rs) : c.Fits s := by
  obtain ⟨hmax, hsingle, -⟩ := hr
  rcases h with ⟨rfl, hc, -⟩ | ⟨rfl, hc, -⟩ | ⟨hc, off, val, -, rfl, ho⟩ | ⟨hc, -, hpos, rfl⟩ | ⟨hc, -, -, rfl, hrot⟩
  · exact hc
  · exact hc
  · exact ⟨hc, ho⟩
  · refine ⟨hc, phase_ne_zero hpos hmax, fun hp => ?_⟩
    rw [show rs.length = 1 from Nat.le_antisymm (hsingle hp) hpos]
    rfl
  · exact ⟨hc, rfl, hrot⟩

theorem Cause.code_le (c : Cause) : c.code ≤ 0x06 := by cases c <;> simp [Cause.code]

theorem Cause.code_ne_zero (c : Cause) : c.code ≠ 0x00 := by cases c <;> simp [Cause.code]

/-- An index of a bus request, widened to the information register, keeps its range (R170). -/
theorem index_range {k : BitVec 2} (h : k ≠ 0) : 1 ≤ k.setWidth 24 ∧ k.setWidth 24 ≤ 3 := by
  bv_omega

/-- Fault entry makes a legal state of any block whose flags are clear: the code and information of a cause that fits are
what R170 lists, and the block is idle. -/
theorem inv_raise {c : Cause} {s : State} (hc : c.Fits s) (hv : s.rValid = 0) (hn : s.rNpts ≤ 2) : (raise c s).Inv where
  status_known := c.code_le
  info_ok h := absurd h c.code_ne_zero
  info_illegal h := by
    cases c with
    | illegalCommand w => exact hc
    | _ => simp [Cause.code] at h
  info_notConstructed h := by
    cases c with
    | notConstructed => exact ⟨rfl, hc⟩
    | _ => simp [Cause.code] at h
  info_alreadyConstructed h := by
    cases c with
    | alreadyConstructed => exact ⟨rfl, hc⟩
    | _ => simp [Cause.code] at h
  info_offset h := by
    cases c with
    | offsetInvalid off => exact ⟨hc.1, off, rfl, hc.2⟩
    | _ => simp [Cause.code] at h
  info_transport h := by
    cases c with
    | transportFailure k =>
      obtain ⟨hcon, hk, hsingle⟩ := hc
      exact ⟨hcon, (index_range hk).1, (index_range hk).2, fun hp => by simp [hsingle hp, Cause.info]⟩
    | _ => simp [Cause.code] at h
  info_rotation h := by
    cases c with
    | rotationInvalid rot =>
      obtain ⟨hcon, rfl, hrot⟩ := hc
      exact ⟨hcon, rfl, hrot⟩
    | _ => simp [Cause.code] at h
  valid_one := .inl hv
  valid_success h := absurd hv h
  busy_constructed h := absurd rfl h
  busy_single _ := by simp
  npts_range := hn

/-- The successful end makes a legal state of any constructed block whose flags are clear. -/
theorem inv_succeed {i : Instr} {s : State} (hc : s.constructed = true) (hv : s.rValid = 0) (hn : s.rNpts ≤ 2) :
    (succeed (resultFlag i) s).Inv where
  status_known := by simp
  info_ok _ := rfl
  info_illegal h := by simp at h
  info_notConstructed h := by simp at h
  info_alreadyConstructed h := by simp at h
  info_offset h := by simp at h
  info_transport h := by simp at h
  info_rotation h := by simp at h
  valid_one := by cases i <;> simp [hv, resultFlag]
  valid_success _ := ⟨rfl, rfl, hc⟩
  busy_constructed h := absurd rfl h
  busy_single _ := by simp
  npts_range := hn

/-- A block that waits for the answer to its last request is legal if it was before the first. -/
theorem inv_issued {i : Instr} {s : State} {rs : List BusRequest} (h : s.Inv) (hc : s.constructed = true)
    (hv : s.rValid = 0) (hr : CanRequest i s rs) : (issued rs s).Inv :=
  { h with
    valid_success := fun hne => absurd hv hne
    busy_constructed := fun _ => hc
    busy_single := fun hp => phase_le_one (hr.2.1 hp) }

/-- Acceptance clears the flags and nothing else. -/
theorem inv_accept {s : State} (h : s.Inv) : (accept s).Inv :=
  { h with
    valid_one := .inl rfl
    valid_success := fun hne => absurd rfl hne }

/-- However a command ends that a legal block has accepted, the block is legal. -/
theorem Ends.inv {i : Instr} {s t : State} (he : Ends i s t) (h : s.Inv) (hv : s.rValid = 0) : t.Inv := by
  obtain ⟨rs, hr, ⟨c, hc, rfl⟩ | ⟨hcon, -, rfl⟩ | ⟨u, hu, rfl⟩⟩ := he
  · have hfits : c.Fits (issued rs s) := hc.fits hr
    exact inv_raise hfits hv h.npts_range
  · exact inv_issued h hcon hv hr
  · obtain ⟨-, hvalid, -⟩ := hu.outside
    exact inv_succeed hu.constructed (hvalid.trans hv) (hu.rNpts_le h.npts_range)

/-- Taking the pins of a step touches no register. -/
theorem inv_sampleInputs {s : State} (h : s.Inv) : (sampleInputs s).Inv := by
  cases hi : s.inputs with
  | nil => rwa [sampleInputs_nil s hi]
  | cons p rest => rw [sampleInputs_cons s p rest hi]; exact { h with }

@[simp] theorem reset_constructed : State.reset.constructed = false := rfl
@[simp] theorem reset_seq : State.reset.seq = 0 := rfl
@[simp] theorem reset_rStatus : State.reset.rStatus = 0x00 := rfl
@[simp] theorem reset_rFinfo : State.reset.rFinfo = 0 := rfl
@[simp] theorem reset_rValid : State.reset.rValid = 0b0000 := rfl
@[simp] theorem reset_rNpts : State.reset.rNpts = 0 := rfl
@[simp] theorem reset_traffic : State.reset.traffic = [] := rfl

/-- Settles O10: one register after the other. -/
theorem resetStateValues : Obligations.ResetStateValues :=
  ⟨reset_constructed, reset_seq, reset_rStatus, reset_rFinfo, reset_rValid, reset_traffic⟩

/-- The reset event makes a legal state of any (R200): by the values of R31, and for `R_NPTS` by the model's. -/
theorem inv_applyReset (s : State) : (applyReset s).Inv where
  status_known := by simp
  info_ok _ := rfl
  info_illegal h := by simp at h
  info_notConstructed h := by simp at h
  info_alreadyConstructed h := by simp at h
  info_offset h := by simp at h
  info_transport h := by simp at h
  info_rotation h := by simp at h
  valid_one := .inl rfl
  valid_success h := absurd rfl h
  busy_constructed h := absurd rfl h
  busy_single _ := by simp
  npts_range := by simp

theorem inv_illegalCommand {s : State} {w : CmdWord} {e : Illegal} (h : s.Inv) (hd : decode w = .error e) :
    (illegalCommand w s).Inv := by
  by_cases hs : s.seq = 0
  · rw [illegalCommand, whenReady_idle _ _ hs]
    have hfits : (Cause.illegalCommand w).Fits (accept s) := fun i => by simp [hd]
    exact inv_raise hfits rfl h.npts_range
  · rwa [illegalCommand, whenReady_busy _ _ hs]

theorem inv_exec {i : Instr} {s t : State} (h : s.Inv) (he : exec i s = .next t) : t.Inv := by
  by_cases hs : s.seq = 0
  · exact (exec_ends hs he).inv (inv_accept h) rfl
  · obtain ⟨-, rfl⟩ | ⟨h0, -⟩ := exec_cases he
    · exact h
    · exact absurd h0 hs

/-- Settles O44: the reset event has nothing to do in the reset state. -/
theorem resetStateIsLegal : Obligations.ResetStateIsLegal := inv_applyReset State.reset

/-- Settles O43: each of the four things a step can be keeps the invariant. -/
theorem everyStepKeepsInv : Obligations.EveryStepKeepsInv := by
  intro s t h hstep
  have hsampled : (sampleInputs s).Inv := inv_sampleInputs h
  obtain ⟨-, -, hquiet⟩ | ⟨-, -, hreset⟩ | ⟨w, e, -, hd, hillegal⟩ | ⟨w, i, -, -, hexec⟩ := step_cases s
  · obtain rfl := Host.Outcome.next.inj (hstep.symm.trans hquiet)
    exact hsampled
  · obtain rfl := Host.Outcome.next.inj (hstep.symm.trans hreset)
    exact inv_applyReset _
  · obtain rfl := Host.Outcome.next.inj (hstep.symm.trans hillegal)
    exact inv_illegalCommand hsampled hd
  · exact inv_exec hsampled (hexec ▸ hstep)

end Sys2Proof.Machine
end

section
/-! The frames (`10_state.md` R10 to R12): what a command and a step write, and on the bus request. -/

namespace Sys2Proof.Machine

/-- Settles O27: a busy block requests nothing, an idle one what `CanRequest` allows. -/
theorem onlyWholeReadsAndOneByteWrites : Obligations.OnlyWholeReadsAndOneByteWrites := by
  intro i s t h
  by_cases hs : s.seq = 0
  · obtain ⟨rs, ⟨hmax, -, -, hform⟩, htraffic, hbus⟩ := (exec_ends hs h).requests
    exact ⟨rs, htraffic, hmax, hbus, hform⟩
  · obtain ⟨-, rfl⟩ | ⟨h0, -⟩ := exec_cases h
    · exact ⟨[], by simp⟩
    · exact absurd h0 hs

/-- INIT makes no request (R103). -/
theorem CanRequest.nil_of_init {s : State} {rs : List BusRequest} (h : CanRequest .init s rs) : rs = [] := by
  obtain ⟨-, -, hinit, -⟩ := h
  exact by_contra fun hne => hinit hne rfl

/-- Settles O34: an idle block keeps what `Ends.frame` says, a busy one everything. -/
theorem commandFrames : Obligations.CommandFrames := by
  intro i s t h
  by_cases hs : s.seq = 0
  · have he := exec_ends hs h
    obtain ⟨⟨hsnap, htouch, hcount, hpoints, hlife⟩, hparams, hinputs, hgeom⟩ := he.frame
    refine ⟨hsnap, htouch, hcount, hpoints, hlife, ?_, hparams, hinputs, hgeom⟩
    rintro rfl
    obtain ⟨rs, hr, htraffic, hbus⟩ := he.requests
    obtain rfl := hr.nil_of_init
    exact ⟨by simpa using htraffic, by simpa using hbus⟩
  · obtain ⟨-, rfl⟩ | ⟨h0, -⟩ := exec_cases h
    · simp
    · exact absurd h0 hs

/-- Settles O32: the work of the command, from the state that acceptance leaves. -/
theorem everyCommandEndsOrWaits : Obligations.EveryCommandEndsOrWaits := by
  intro i s hs
  refine ⟨work i (accept s), ?_, (work_ends i (accept s) hs).outcome rfl⟩
  rw [exec_eq_work, whenReady_idle _ _ hs]

/-! ## The lifecycle -/

/-- The three fields of a word make it up (R70). -/
theorem word_eq_of_fields {w v : CmdWord} (hop : opField w = opField v) (hoff : offField w = offField v)
    (hval : valField w = valField v) : w = v := by
  simp only [opField, offField, valField, ← BitVec.toNat_inj, BitVec.extractLsb'_toNat, Nat.shiftRight_eq_div_pow] at *
  omega

/-- Only one word is INIT's (R72). -/
theorem eq_of_decode_init {w : CmdWord} (h : decode w = .ok .init) : w = 0x010000 := by
  unfold decode at h
  by_cases hop : opField w = 0x01
  · rw [if_pos hop, decodePlain] at h
    split at h
    case isTrue hoperands => exact word_eq_of_fields hop hoperands.1 hoperands.2
    case isFalse => simp at h
  · rw [if_neg hop] at h
    simp only [decodePlain] at h
    split_ifs at h <;> simp at h

/-- A command leaves the lifecycle and geometry registers alone, but for INIT in a block not constructed. -/
theorem Ends.lifecycle {i : Instr} {s t : State} (h : Ends i s t) :
    SameLifecycle s t ∨ (i = .init ∧ s.constructed = false) := by
  by_cases hi : i = .init
  · subst hi
    obtain ⟨rs, -, ⟨c, -, rfl⟩ | ⟨-, -, rfl⟩ | ⟨u, ⟨hc, -⟩, -⟩⟩ := h
    · exact .inl (.refl s)
    · exact .inl (.refl s)
    · exact .inr ⟨rfl, hc⟩
  · obtain ⟨⟨-, -, -, -, hlife⟩, -⟩ := h.frame
    exact .inl (hlife hi)

theorem sameLifecycle_illegalCommand (w : CmdWord) (s : State) : SameLifecycle s (illegalCommand w s) := by
  by_cases hs : s.seq = 0
  · rw [illegalCommand, whenReady_idle _ _ hs]
    exact .refl s
  · rw [illegalCommand, whenReady_busy _ _ hs]
    exact .refl s

theorem sameLifecycle_sampleInputs (s : State) : SameLifecycle s (sampleInputs s) := by simp [SameLifecycle]

theorem SameLifecycle.trans {s t u : State} (h : SameLifecycle s t) (h' : SameLifecycle t u) : SameLifecycle s u := by
  obtain ⟨hc, hrot, hwidth, hheight⟩ := h
  obtain ⟨hc', hrot', hwidth', hheight'⟩ := h'
  exact ⟨hc'.trans hc, hrot'.trans hrot, hwidth'.trans hwidth, hheight'.trans hheight⟩

/-- What a step can do to the lifecycle and geometry registers: nothing, a reset, or the first INIT (R11, R12, R180). -/
theorem step_lifecycle {s t : State} (h : step s = .next t) :
    SameLifecycle s t ∨ (resetAsserted s = true ∧ t.constructed = false) ∨
    (s.constructed = false ∧ s.seq = 0 ∧ presentedWord s = some 0x010000) := by
  have hsampled := sameLifecycle_sampleInputs s
  obtain ⟨-, -, hquiet⟩ | ⟨-, hr, hreset⟩ | ⟨w, e, -, -, hillegal⟩ | ⟨w, i, hw, hd, hexec⟩ := step_cases s
  · obtain rfl := Host.Outcome.next.inj (h.symm.trans hquiet)
    exact .inl hsampled
  · obtain rfl := Host.Outcome.next.inj (h.symm.trans hreset)
    exact .inr (.inl ⟨hr, rfl⟩)
  · obtain rfl := Host.Outcome.next.inj (h.symm.trans hillegal)
    exact .inl (hsampled.trans (sameLifecycle_illegalCommand w _))
  · rw [hexec] at h
    by_cases hs : s.seq = 0
    · obtain hsame | ⟨rfl, hc⟩ := (exec_ends (by simpa using hs) h).lifecycle
      · exact .inl (hsampled.trans hsame)
      · exact .inr (.inr ⟨by simpa using hc, hs, by rw [hw, eq_of_decode_init hd]⟩)
    · obtain ⟨-, rfl⟩ | ⟨h0, -⟩ := exec_cases h
      · exact .inl hsampled
      · exact absurd (by simpa using h0) hs

/-- Settles O35: of the three things a step can do to the lifecycle, the two that are not nothing. -/
theorem lifecycleOnlyByInitAndReset : Obligations.LifecycleOnlyByInitAndReset := by
  intro s t h hne
  obtain ⟨hsame, -⟩ | ⟨hr, hc⟩ | hinit := step_lifecycle h
  · exact absurd hsame hne
  · exact .inr ⟨by simpa [hc] using hne, hr⟩
  · exact .inl hinit

/-- Settles O36: a constructed block that is not reset can do nothing to its geometry. -/
theorem geometryIsCaptured : Obligations.GeometryIsCaptured := by
  intro s t h hc hr
  obtain ⟨hsame, hgeometry⟩ | ⟨hr', -⟩ | ⟨hc', -⟩ := step_lifecycle h
  · exact ⟨hsame.trans hc, hgeometry⟩
  · simp [hr] at hr'
  · simp [hc] at hc'

end Sys2Proof.Machine
end

section
/-! The caller's reads and the response (`10_state.md` R21 to R26): a result is read by its flag, and the response holds what
can be read. -/

namespace Sys2Proof.Machine

theorem readIf_clear {α : Type} {s : State} {flag : BitVec 4} (reg : ResultReg) (value : α)
    (h : s.rValid &&& flag = 0) : readIf s flag reg value = .error (.noValue reg) := if_pos h

theorem readIf_set {α : Type} {s : State} {flag : BitVec 4} (reg : ResultReg) (value : α)
    (h : s.rValid &&& flag ≠ 0) : readIf s flag reg value = .ok value := if_neg h

/-- The place of each flag in `R_VALID` (R21). -/
theorem flag_clear_iff (v : BitVec 4) :
    (v &&& vSnap = 0 ↔ v.getLsbD 0 = false) ∧ (v &&& vTouch = 0 ↔ v.getLsbD 1 = false) ∧
    (v &&& vCount = 0 ↔ v.getLsbD 2 = false) ∧ (v &&& vPts = 0 ↔ v.getLsbD 3 = false) := by
  revert v; decide

/-- A flag known by its place decides the read. -/
theorem readIf_bit {α : Type} {s : State} {flag : BitVec 4} {k : Nat} (reg : ResultReg) (value : α)
    (h : s.rValid &&& flag = 0 ↔ s.rValid.getLsbD k = false) :
    readIf s flag reg value = if s.rValid.getLsbD k then .ok value else .error (.noValue reg) := by
  cases hb : s.rValid.getLsbD k with
  | false => exact readIf_clear reg value (h.2 hb)
  | true => exact readIf_set reg value fun h0 => by simp [hb] at h; exact h h0

/-- Settles O37: flag by flag; of the pairs the count is tested too. -/
theorem readsNeedTheirFlag : Obligations.ReadsNeedTheirFlag := by
  intro s
  obtain ⟨hsnap, htouch, hcount, hpts⟩ := flag_clear_iff s.rValid
  refine ⟨readIf_bit _ _ hsnap, readIf_bit _ _ htouch, readIf_bit _ _ hcount, readIf_bit _ _ hpts, fun k => ?_⟩
  by_cases hk : k.val < s.rNpts.toNat
  · simp only [readX, readY, hk, if_true, and_true]
    exact ⟨readIf_bit _ _ hpts, readIf_bit _ _ hpts⟩
  · simp [readX, readY, hk]

/-- Without its flag no pair can be read, whatever the count. -/
theorem readX_clear {s : State} (h : s.rValid &&& vPts = 0) (k : Fin 2) : readX s k = .error (.noValue (.x k)) := by
  unfold readX
  split
  · exact readIf_clear _ _ h
  · rfl

theorem readY_clear {s : State} (h : s.rValid &&& vPts = 0) (k : Fin 2) : readY s k = .error (.noValue (.y k)) := by
  unfold readY
  split
  · exact readIf_clear _ _ h
  · rfl

/-- After an accepted command a flag is clear if it is not the command's own. -/
theorem Ends.flag_clear {i : Instr} {s t : State} {flag : BitVec 4} (h : Ends i s t) (hv : s.rValid = 0)
    (hflag : resultFlag i &&& flag = 0) : t.rValid &&& flag = 0 := by
  obtain ⟨-, -, -, hown⟩ | ⟨-, -, -, hnone⟩ | ⟨-, -, -, hnone⟩ := h.outcome hv
  · rw [hown, hflag]
  · simp [hnone]
  · simp [hnone]

/-- A flag is the result flag of the one command whose result it guards (R21). -/
theorem resultFlag_disjoint (i : Instr) :
    (i ≠ .rdsnap → resultFlag i &&& vSnap = 0) ∧ (i ≠ .touched → resultFlag i &&& vTouch = 0) ∧
    (i ≠ .count → resultFlag i &&& vCount = 0) ∧ (i ≠ .points → resultFlag i &&& vPts = 0) := by
  cases i <;> simp [resultFlag, vSnap, vTouch, vCount, vPts]

/-- Settles O38: acceptance has cleared every flag, and the command sets none but its own. -/
theorem oldResultsAreUnreadable : Obligations.OldResultsAreUnreadable := by
  intro i s t hs h
  have he := exec_ends hs h
  obtain ⟨hsnap, htouch, hcount, hpts⟩ := resultFlag_disjoint i
  refine ⟨fun hi => readIf_clear _ _ (he.flag_clear rfl (hsnap hi)),
    fun hi => readIf_clear _ _ (he.flag_clear rfl (htouch hi)),
    fun hi => readIf_clear _ _ (he.flag_clear rfl (hcount hi)), fun hi => ?_⟩
  have hclear := he.flag_clear rfl (hpts hi)
  exact ⟨readIf_clear _ _ hclear, readX_clear hclear, readY_clear hclear⟩

/-! ## The response -/

theorem response_busy {s : State} (h : s.seq ≠ 0) : response s = none := if_neg h

theorem response_idle {s : State} (h : s.seq = 0) :
    response s = some ⟨s.rStatus, s.rFinfo, (readSnap s).toOption, (readTouch s).toOption, (readCount s).toOption,
      (readIf s vPts .npts (pairs s)).toOption⟩ := if_pos h

theorem toOption_eq_some_iff {ε α : Type} {x : Except ε α} {a : α} : x.toOption = some a ↔ x = .ok a := by
  cases x <;> simp [Except.toOption]

theorem pairs_length (s : State) : (pairs s).length = min s.rNpts.toNat 2 := by simp [pairs]

theorem pairs_getElem {s : State} {k : Nat} (hk : k < (pairs s).length) (hk2 : k < 2) :
    (pairs s)[k] = ⟨s.rX[k], s.rY[k]⟩ := by
  match k, hk2 with
  | 0, _ => simp [pairs]
  | 1, _ => simp [pairs]

/-- The pairs of the response are those the caller can read one by one. -/
theorem read_pairs {s : State} {k : Nat} (hflag : s.rValid &&& vPts ≠ 0) (hk : k < (pairs s).length) (hk2 : k < 2) :
    readX s ⟨k, hk2⟩ = .ok (pairs s)[k].x ∧ readY s ⟨k, hk2⟩ = .ok (pairs s)[k].y := by
  have hcount : k < s.rNpts.toNat := by rw [pairs_length] at hk; omega
  rw [pairs_getElem hk hk2]
  simp only [readX, readY, hcount, if_true]
  exact ⟨readIf_set _ _ hflag, readIf_set _ _ hflag⟩

/-- Settles O49: field by field; the pairs by their flag. -/
theorem responseIsWhatCanBeRead : Obligations.ResponseIsWhatCanBeRead := by
  refine fun s => ⟨response_busy, fun hs => ⟨_, response_idle hs, rfl, rfl, fun _ => toOption_eq_some_iff,
    fun _ => toOption_eq_some_iff, fun _ => toOption_eq_some_iff, ?_⟩⟩
  by_cases hflag : s.rValid &&& vPts = 0
  · simp [readNpts, readIf_clear _ _ hflag, Except.toOption]
  · rw [readNpts, readIf_set _ (pairs s) hflag, readIf_set _ s.rNpts hflag]
    refine ⟨by simp [Except.toOption], ?_⟩
    rintro pts ⟨⟩
    exact ⟨rfl, pairs_length s, fun k hk hk2 => read_pairs hflag hk hk2⟩

end Sys2Proof.Machine
end

section
/-! An accepted operation read by read: where it stands after `n` of its snapshot reads, and what the next read does. -/

namespace Sys2Proof.Machine

/-- `s` with its operation accepted and its first `n` snapshot reads answered (R18). -/
def afterReads (n : Nat) (s : State) : State :=
  { s.readsDone n with rValid := 0b0000, seq := BitVec.ofNat 2 n }

theorem afterReads_zero {s : State} (h : s.seq = 0) : afterReads 0 s = accept s := by
  cases s
  simp_all [afterReads, accept, State.readsDone]

@[simp] theorem afterReads_constructed (n : Nat) (s : State) : (afterReads n s).constructed = s.constructed := rfl
@[simp] theorem afterReads_traffic (n : Nat) (s : State) :
    (afterReads n s).traffic = s.traffic ++ List.replicate n snapshotRequest := rfl

theorem issue_afterReads (n : Nat) (s : State) :
    issue (BitVec.ofNat 2 (n + 1)) snapshotRequest (afterReads n s) = afterReads (n + 1) s := by
  simp [issue, afterReads, State.readsDone, List.replicate_succ']

theorem snapshotReply_afterReads (n : Nat) (s : State) : snapshotReply (afterReads n s) = replyAfter n s := rfl

/-! ## The read after `n` reads -/

section
variable {n : Nat} {s : State} (k : BitVec 2) (next : Snapshot → State → State)

theorem nextRead_answered {S : Snapshot} (hk : k = BitVec.ofNat 2 (n + 1)) (h : replyAfter n s = .answered S) :
    readSnapshot k next (afterReads n s) = next S (afterReads (n + 1) s) := by
  rw [readSnapshot_answered k next ((snapshotReply_afterReads n s).trans h), hk, issue_afterReads]

theorem nextRead_failed (hk : k = BitVec.ofNat 2 (n + 1)) (h : replyAfter n s = .failed) :
    readSnapshot k next (afterReads n s) = raise (.transportFailure k) (afterReads (n + 1) s) := by
  rw [readSnapshot_failed k next ((snapshotReply_afterReads n s).trans h), hk, issue_afterReads]

theorem nextRead_never (hk : k = BitVec.ofNat 2 (n + 1)) (h : replyAfter n s = .never) :
    readSnapshot k next (afterReads n s) = afterReads (n + 1) s := by
  rw [readSnapshot_never k next ((snapshotReply_afterReads n s).trans h), hk, issue_afterReads]

end

/-! ## The ends after `n` reads -/

/-- A fault makes the block idle again, which it was before the operation. -/
theorem raise_afterReads {s : State} (c : Cause) (n : Nat) (hs : s.seq = 0) :
    raise c (afterReads n s) = { s.readsDone n with rValid := 0b0000, rStatus := c.code, rFinfo := c.info } := by
  simp [raise, afterReads, State.readsDone, hs]

theorem finishPoints_none {s : State} (n : Nat) (hs : s.seq = 0) :
    finishPoints [] (afterReads n s) =
      { s.readsDone n with rNpts := 0, rValid := 0b1000, rStatus := 0x00, rFinfo := 0 } := by
  simp [finishPoints, succeed, resultFlag, vPts, afterReads, State.readsDone, hs]

theorem finishPoints_one {s : State} (p : Point) (n : Nat) (hs : s.seq = 0) :
    finishPoints [p] (afterReads n s) =
      { s.readsDone n with
        rNpts := 1, rX := #v[p.x, s.rX[1]], rY := #v[p.y, s.rY[1]], rValid := 0b1000, rStatus := 0x00, rFinfo := 0 } := by
  simp [finishPoints, succeed, resultFlag, vPts, afterReads, State.readsDone, hs, vec2_set_first]

theorem finishPoints_two {s : State} (p q : Point) (n : Nat) (hs : s.seq = 0) :
    finishPoints [p, q] (afterReads n s) =
      { s.readsDone n with
        rNpts := 2, rX := #v[p.x, q.x], rY := #v[p.y, q.y], rValid := 0b1000, rStatus := 0x00, rFinfo := 0 } := by
  simp [finishPoints, succeed, resultFlag, vPts, afterReads, State.readsDone, hs, vec2_set_both]

end Sys2Proof.Machine
end

section
/-! POINTS under `per_step` (`42_touch_points_and_rotation.md` R149), one lemma for each read it comes to. -/

namespace Sys2Proof.Machine

/-- What POINTS does under `per_step` with a rotation it has tested: point 1 from `Sb`, and point 2 from a third snapshot if
`Sa` counts more than one. -/
def perStepPairs (Sa Sb : Snapshot) (r : Rotation) (s : State) : State :=
  if 2 ≤ regByte Sa .tdStatus then
    readSnapshot 3 (fun Sc s =>
      finishPoints [slotPoint r s.width s.height Sb .slot1, slotPoint r s.width s.height Sc .slot2] s) s
  else finishPoints [slotPoint r s.width s.height Sb .slot1] s

/-- POINTS, accepted by a constructed block, starts with no read done. -/
theorem exec_points {s : State} (hs : s.seq = 0) (hc : s.constructed = true) :
    exec .points s = .next (queryPoints (afterReads 0 s)) := by
  rw [exec_eq_work, whenReady_idle _ _ hs, ← afterReads_zero hs, work, whenConstructed_true _ _ (by simpa using hc)]

theorem exec_points_perStep {s : State} (hs : s.seq = 0) (hc : s.constructed = true)
    (hp : s.params.snapPolicy = .perStep) : exec .points s = .next (pointsPerStep (afterReads 0 s)) := by
  rw [exec_points hs hc, queryPoints, show (afterReads 0 s).params.snapPolicy = .perStep from hp]

/-- With a count of 0 there is nothing to rotate (R153). -/
theorem pointsPerStep_none {s : State} {Sa : Snapshot} (h0 : replyAfter 0 s = .answered Sa) (hcount : Sa[0x02] = 0) :
    pointsPerStep (afterReads 0 s) = finishPoints [] (afterReads 1 s) := by
  rw [pointsPerStep, nextRead_answered 1 _ rfl h0, regByte_tdStatus, hcount]
  rfl

theorem pointsPerStep_some {s : State} {Sa : Snapshot} (h0 : replyAfter 0 s = .answered Sa)
    (hcount : 1 ≤ Sa[0x02].toNat) :
    pointsPerStep (afterReads 0 s) =
      readSnapshot 2 (fun Sb => whenRotation (perStepPairs Sa Sb)) (afterReads 1 s) := by
  have hsome : 1 ≤ regByte Sa .tdStatus := by rwa [regByte_tdStatus]
  rw [pointsPerStep, nextRead_answered 1 _ rfl h0, if_pos hsome]
  rfl

theorem perStepPairs_one {Sa Sb : Snapshot} (r : Rotation) (s : State) (hcount : Sa[0x02] = 1) :
    perStepPairs Sa Sb r s = finishPoints [slotPoint r s.width s.height Sb .slot1] s := by
  rw [perStepPairs, regByte_tdStatus, hcount]
  rfl

theorem perStepPairs_more {Sa Sb : Snapshot} (r : Rotation) (s : State) (hcount : 2 ≤ Sa[0x02].toNat) :
    perStepPairs Sa Sb r s = readSnapshot 3 (fun Sc s =>
      finishPoints [slotPoint r s.width s.height Sb .slot1, slotPoint r s.width s.height Sc .slot2] s) s := by
  have hmore : 2 ≤ regByte Sa .tdStatus := by rwa [regByte_tdStatus]
  exact if_pos hmore

/-- Settles O25: the operation followed from read to read, with its end at each. -/
theorem pointsFromUpToThreeSnapshots : Obligations.PointsFromUpToThreeSnapshots := by
  intro s hs hp
  refine ⟨fun hc => ?notConstructed, fun hc => ?_⟩
  case notConstructed =>
    rw [exec_eq_work, whenReady_idle _ _ hs, work, whenConstructed_false _ _ (by simpa using hc)]
    simp [raise, accept, Cause.code, Cause.info, hs]
  rw [exec_points_perStep hs hc hp]
  refine ⟨fun h0 => ?firstFails, fun Sa h0 => ⟨fun hcount => ?noPoint, fun hcount => ?_⟩⟩
  case firstFails => rw [pointsPerStep, nextRead_failed 1 _ rfl h0, raise_afterReads _ 1 hs]; rfl
  case noPoint => rw [pointsPerStep_none h0 hcount, finishPoints_none 1 hs]
  rw [pointsPerStep_some h0 hcount]
  refine ⟨fun h1 => ?secondFails, fun h1 => ?secondHangs, fun Sb h1 => ?_⟩
  case secondFails => rw [nextRead_failed 2 _ rfl h1, raise_afterReads _ 2 hs]; rfl
  case secondHangs => rw [nextRead_never 2 _ rfl h1]; rfl
  rw [nextRead_answered 2 _ rfl h1]
  refine ⟨fun hrot => ?invalidRotation, fun r hrot => ?_⟩
  case invalidRotation => rw [whenRotation_none (s := afterReads 2 s) _ hrot, raise_afterReads _ 2 hs]; rfl
  rw [whenRotation_some (s := afterReads 2 s) _ hrot]
  refine ⟨fun hone => ?onePoint, fun hmore => ?_⟩
  case onePoint => rw [perStepPairs_one r _ hone, finishPoints_one _ 2 hs]; rfl
  rw [perStepPairs_more r _ hmore]
  refine ⟨fun h2 => ?thirdFails, fun h2 => ?thirdHangs, fun Sc h2 => ?twoPoints⟩
  case thirdFails => rw [nextRead_failed 3 _ rfl h2, raise_afterReads _ 3 hs]; rfl
  case thirdHangs => rw [nextRead_never 3 _ rfl h2]; rfl
  case twoPoints => rw [nextRead_answered 3 _ rfl h2, finishPoints_two _ _ 3 hs]; rfl

end Sys2Proof.Machine
end

section
/-! The number of bus transactions of a success (`10_state.md` R18): an operation that succeeds has been answered at each of
its requests. -/

namespace Sys2Proof.Machine

/-- The operation that led to `t` has succeeded (R19). -/
def Succeeded (t : State) : Prop := t.seq = 0 ∧ t.rStatus = 0x00

theorem not_succeeded_raise (c : Cause) (s : State) : ¬ Succeeded (raise c s) := fun h => c.code_ne_zero h.2

theorem Succeeded.whenConstructed {op : State → State} {s : State} (h : Succeeded (whenConstructed op s)) :
    Machine.whenConstructed op s = op s := by
  cases hc : s.constructed with
  | true => exact whenConstructed_true op s hc
  | false => exact absurd (whenConstructed_false op s hc ▸ h) (not_succeeded_raise _ _)

theorem Succeeded.whenRotation {use : Rotation → State → State} {s : State} (h : Succeeded (whenRotation use s)) :
    ∃ r, Machine.whenRotation use s = use r s := by
  cases hr : rotSelect s.rot with
  | some r => exact ⟨r, whenRotation_some use hr⟩
  | none => exact absurd (whenRotation_none use hr ▸ h) (not_succeeded_raise _ _)

/-- A request of an operation that succeeds has been answered. -/
theorem Succeeded.afterReply {α : Type} {k : BitVec 2} {reply : Reply α} {next : α → State → State} {s : State}
    (h : Succeeded (afterReply k reply next s)) (hs : s.seq ≠ 0) : ∃ a, reply = .answered a := by
  obtain ⟨a, ha, -⟩ | ⟨-, hfailed⟩ | ⟨-, hnever⟩ := afterReply_cases k reply next s
  · exact ⟨a, ha⟩
  · exact absurd (hfailed ▸ h) (not_succeeded_raise _ _)
  · exact absurd (hnever ▸ h).1 hs

theorem Succeeded.nextRead {n : Nat} {k : BitVec 2} {next : Snapshot → State → State} {s : State}
    (h : Succeeded (readSnapshot k next (afterReads n s))) (hk : k = BitVec.ofNat 2 (n + 1)) (hk0 : k ≠ 0) :
    ∃ S, replyAfter n s = .answered S ∧
      readSnapshot k next (afterReads n s) = next S (afterReads (n + 1) s) := by
  obtain ⟨S, hS⟩ := Succeeded.afterReply h hk0
  exact ⟨S, hS, nextRead_answered k next hk hS⟩

@[simp] theorem finishPoints_traffic (pts : List Point) (s : State) : (finishPoints pts s).traffic = s.traffic := by
  simp [finishPoints]

theorem firstCount_answered {s : State} {S : Snapshot} (h : replyAfter 0 s = .answered S) : firstCount s = S[0x02] := by
  simp [firstCount, h]

theorem captureGeometry_traffic (s : State) : (captureGeometry s).traffic = s.traffic := by
  unfold captureGeometry
  split <;> rfl

theorem transactions_writeConfig {off val : Byte} {s : State} (h : Succeeded (writeConfig off val s)) :
    (writeConfig off val s).traffic.length = s.traffic.length + 1 := by
  unfold writeConfig at h ⊢
  split at h
  case isTrue hoff =>
    obtain ⟨_, hanswer⟩ := Succeeded.afterReply h (by simp)
    rw [if_pos hoff, writeRegister_answered _ _ hanswer]
    simp
  case isFalse => exact absurd h (not_succeeded_raise _ _)

/-- RDSNAP, COUNT and, under `single`, TOUCHED make one read and write what they got. -/
theorem transactions_oneRead {next : Snapshot → State → State} {s : State}
    (h : Succeeded (readSnapshot 1 next (afterReads 0 s)))
    (hnext : ∀ S u, (next S u).traffic = u.traffic) :
    (readSnapshot 1 next (afterReads 0 s)).traffic.length = s.traffic.length + 1 := by
  obtain ⟨S, -, heq⟩ := h.nextRead rfl (by decide)
  rw [heq, hnext]
  simp

theorem transactions_touchedPerStep {s : State} (h : Succeeded (touchedPerStep (afterReads 0 s))) :
    (touchedPerStep (afterReads 0 s)).traffic.length = s.traffic.length + 2 := by
  unfold touchedPerStep at h ⊢
  obtain ⟨Sa, -, heq⟩ := h.nextRead rfl (by decide)
  rw [heq] at h ⊢
  obtain ⟨Sb, -, heq⟩ := h.nextRead rfl (by decide)
  rw [heq]
  simp

theorem transactions_pointsSingle {s : State} (h : Succeeded (pointsSingle (afterReads 0 s))) :
    (pointsSingle (afterReads 0 s)).traffic.length = s.traffic.length + 1 := by
  unfold pointsSingle at h ⊢
  obtain ⟨S, -, heq⟩ := h.nextRead rfl (by decide)
  rw [heq] at h ⊢
  split at h
  case isTrue hsome =>
    obtain ⟨r, heq⟩ := h.whenRotation
    rw [if_pos hsome, heq]
    split <;> simp
  case isFalse hnone =>
    rw [if_neg hnone]
    simp

/-- Under `per_step` POINTS makes a read for its count and one for each point. -/
theorem transactions_pointsPerStep {s : State} (h : Succeeded (pointsPerStep (afterReads 0 s))) :
    (pointsPerStep (afterReads 0 s)).traffic.length =
      s.traffic.length + transactions .perStep .points (firstCount s) := by
  obtain ⟨Sa, h0, -⟩ := h.nextRead rfl (by decide)
  rw [firstCount_answered h0]
  by_cases hnone : Sa[0x02] = 0
  · simp [pointsPerStep_none h0 hnone, transactions, hnone]
  rw [pointsPerStep_some h0 (by bv_omega)] at h ⊢
  obtain ⟨Sb, -, heq⟩ := h.nextRead rfl (by decide)
  rw [heq] at h ⊢
  obtain ⟨r, heq⟩ := h.whenRotation
  rw [heq] at h ⊢
  by_cases hone : Sa[0x02] = 1
  · simp [perStepPairs_one r _ hone, transactions, hone]
  rw [perStepPairs_more r _ (by bv_omega)] at h ⊢
  obtain ⟨Sc, -, heq⟩ := h.nextRead rfl (by decide)
  rw [heq, transactions, if_neg hnone, if_neg hone]
  simp

/-- The table of R18, command by command. -/
theorem transactions_work {i : Instr} {s : State} (h : Succeeded (work i (afterReads 0 s))) :
    (work i (afterReads 0 s)).traffic.length = s.traffic.length + transactions s.params.snapPolicy i (firstCount s) := by
  have hp : (afterReads 0 s).params = s.params := rfl
  cases i with
  | init => simp [work, captureGeometry_traffic, transactions]
  | wrreg off val =>
    have heq : work (.wrreg off val) (afterReads 0 s) = writeConfig off val (afterReads 0 s) := h.whenConstructed
    rw [heq] at h ⊢
    simp [transactions_writeConfig h, transactions]
  | rdsnap =>
    have heq : work .rdsnap (afterReads 0 s) = copySnapshot (afterReads 0 s) := h.whenConstructed
    rw [heq] at h ⊢
    exact transactions_oneRead h fun _ _ => rfl
  | count =>
    have heq : work .count (afterReads 0 s) = queryCount (afterReads 0 s) := h.whenConstructed
    rw [heq] at h ⊢
    exact transactions_oneRead h fun _ _ => rfl
  | touched =>
    have heq : work .touched (afterReads 0 s) = queryTouched (afterReads 0 s) := h.whenConstructed
    rw [heq, queryTouched, hp] at h ⊢
    cases hq : s.params.snapPolicy with
    | single =>
      rw [hq] at h
      exact transactions_oneRead h fun _ _ => rfl
    | perStep =>
      rw [hq] at h
      exact transactions_touchedPerStep h
  | points =>
    have heq : work .points (afterReads 0 s) = queryPoints (afterReads 0 s) := h.whenConstructed
    rw [heq, queryPoints, hp] at h ⊢
    cases hq : s.params.snapPolicy with
    | single =>
      rw [hq] at h
      exact transactions_pointsSingle h
    | perStep =>
      rw [hq] at h
      exact transactions_pointsPerStep h

/-- Settles O28: an accepted operation is one with no read done yet. -/
theorem transactionsOfASuccess : Obligations.TransactionsOfASuccess := by
  intro i s t hs h hidle hok
  rw [exec_eq_work, whenReady_idle _ _ hs, ← afterReads_zero hs, Host.Outcome.next.injEq] at h
  subst h
  exact transactions_work ⟨hidle, hok⟩

end Sys2Proof.Machine
end

section
/-! Nothing survives an operation (`10_state.md` R28): two blocks that differ in their status and result registers alone, once
both have accepted the same command, take every shared operation alike and end with the same response. -/

namespace Sys2Proof.Machine

/-- Two blocks alike in what an operation may depend on but for the geometry port: phase, lifecycle, captured geometry,
parameters, and what the bus answers. -/
structure SameBlock (s s' : State) : Prop where
  seq : s.seq = s'.seq
  constructed : s.constructed = s'.constructed
  rot : s.rot = s'.rot
  width : s.width = s'.width
  height : s.height = s'.height
  params : s.params = s'.params
  bus : s.bus = s'.bus
  traffic : s.traffic = s'.traffic

/-- The same, in the course of one operation: acceptance has cleared the flags of both. -/
structure Alike (s s' : State) : Prop extends SameBlock s s' where
  cleared : s.rValid = 0
  cleared' : s'.rValid = 0

/-- The two blocks have come to the same phase with the same response. -/
structure SameEnd (s s' : State) : Prop extends SameBlock s s' where
  response : response s = response s'

theorem SameBlock.accept {s s' : State} (h : SameBlock s s') : Alike (accept s) (accept s') :=
  { h with cleared := rfl, cleared' := rfl }

theorem Alike.issue {s s' : State} (h : Alike s s') (k : BitVec 2) (r : BusRequest) :
    Alike (issue k r s) (issue k r s') :=
  { h with
    seq := rfl
    bus := by simp [h.bus]
    traffic := by simp [h.traffic] }

/-! ## The ends -/

theorem response_cleared {s : State} (hs : s.seq = 0) (hv : s.rValid = 0) :
    response s = some ⟨s.rStatus, s.rFinfo, none, none, none, none⟩ := by
  simp [response_idle hs, readSnap, readTouch, readCount, readIf, hv, Except.toOption]

theorem Alike.raise {s s' : State} (h : Alike s s') (c : Cause) : SameEnd (raise c s) (raise c s') :=
  { h with
    seq := rfl
    response := by rw [response_cleared (s := Machine.raise c s) rfl h.cleared,
      response_cleared (s := Machine.raise c s') rfl h.cleared']; rfl }

theorem Alike.waiting {s s' : State} (h : Alike s s') (hs : s.seq ≠ 0) : SameEnd s s' :=
  { h with response := by rw [response_busy hs, response_busy (h.seq ▸ hs)] }

/-- The registers that the flags in `flag` guard are the same (R21). -/
structure SameResults (flag : BitVec 4) (s s' : State) : Prop where
  snap : flag &&& vSnap ≠ 0 → s.rSnap = s'.rSnap
  touch : flag &&& vTouch ≠ 0 → s.rTouch = s'.rTouch
  count : flag &&& vCount ≠ 0 → s.rCount = s'.rCount
  points : flag &&& vPts ≠ 0 → pairs s = pairs s'

/-- INIT and WRREG have no result register. -/
theorem SameResults.none (s s' : State) : SameResults 0 s s' :=
  { snap := absurd rfl, touch := absurd rfl, count := absurd rfl, points := absurd rfl }

theorem readIf_congr {α : Type} {s s' : State} {flag : BitVec 4} {reg : ResultReg} {value value' : α}
    (hv : s.rValid = s'.rValid) (h : s.rValid &&& flag ≠ 0 → value = value') :
    readIf s flag reg value = readIf s' flag reg value' := by
  by_cases hflag : s.rValid &&& flag = 0
  · rw [readIf_clear _ _ hflag, readIf_clear _ _ (hv ▸ hflag)]
  · rw [readIf_set _ _ hflag, readIf_set _ _ (hv ▸ hflag), h hflag]

theorem Alike.succeed {s s' : State} {flag : BitVec 4} (h : Alike s s') (hr : SameResults flag s s') :
    SameEnd (succeed flag s) (succeed flag s') := by
  have hvalid : (Machine.succeed flag s).rValid = flag := by simp [h.cleared]
  have hsame : (Machine.succeed flag s).rValid = (Machine.succeed flag s').rValid := by simp [h.cleared, h.cleared']
  have hsnap : readSnap (Machine.succeed flag s) = readSnap (Machine.succeed flag s') :=
    readIf_congr hsame (hvalid.symm ▸ hr.snap)
  have htouch : readTouch (Machine.succeed flag s) = readTouch (Machine.succeed flag s') :=
    readIf_congr hsame (hvalid.symm ▸ hr.touch)
  have hcount : readCount (Machine.succeed flag s) = readCount (Machine.succeed flag s') :=
    readIf_congr hsame (hvalid.symm ▸ hr.count)
  have hpoints : readIf (Machine.succeed flag s) vPts .npts (pairs (Machine.succeed flag s)) =
      readIf (Machine.succeed flag s') vPts .npts (pairs (Machine.succeed flag s')) :=
    readIf_congr hsame (hvalid.symm ▸ hr.points)
  exact { h with
    seq := rfl
    response := by rw [response_idle rfl, response_idle rfl, hsnap, htouch, hcount, hpoints]; rfl }

/-- What a pair register held before is no part of the pairs delivered (R24). -/
theorem pairs_deliver (pts : List Point) (s s' : State) : pairs (deliver pts s) = pairs (deliver pts s') := by
  match pts with
  | [] => simp [pairs]
  | [p] => simp [pairs]
  | p :: q :: _ => simp [pairs, deliver]

theorem Alike.finishPoints {s s' : State} (h : Alike s s') (pts : List Point) :
    SameEnd (finishPoints pts s) (finishPoints pts s') := by
  have hdelivered : Alike (deliver pts s) (deliver pts s') := by
    constructor
    · constructor <;> simp [h.seq, h.constructed, h.rot, h.width, h.height, h.params, h.bus, h.traffic]
    · simp [h.cleared]
    · simp [h.cleared']
  exact hdelivered.succeed
    { snap := absurd rfl, touch := absurd rfl, count := absurd rfl, points := fun _ => pairs_deliver pts s s' }

/-! ## The tests and the bus -/

section
variable {s s' : State} (h : Alike s s')
include h

theorem Alike.whenConstructed {op : State → State} (hop : SameEnd (op s) (op s')) :
    SameEnd (whenConstructed op s) (whenConstructed op s') := by
  cases hc : s.constructed with
  | true => rwa [whenConstructed_true _ _ hc, whenConstructed_true _ _ (h.constructed ▸ hc)]
  | false =>
    rw [whenConstructed_false _ _ hc, whenConstructed_false _ _ (h.constructed ▸ hc)]
    exact h.raise _

theorem Alike.whenRotation {use : Rotation → State → State} (huse : ∀ r, SameEnd (use r s) (use r s')) :
    SameEnd (whenRotation use s) (whenRotation use s') := by
  cases hr : rotSelect s.rot with
  | some r =>
    rw [whenRotation_some _ hr, whenRotation_some _ (h.rot ▸ hr)]
    exact huse r
  | none =>
    rw [whenRotation_none _ hr, whenRotation_none _ (h.rot ▸ hr), ← h.rot]
    exact h.raise _

theorem Alike.afterReply {α : Type} {k : BitVec 2} (hk : k ≠ 0) (r : BusRequest) (reply : Reply α)
    {next : α → State → State} (hnext : ∀ a u u', Alike u u' → SameEnd (next a u) (next a u')) :
    SameEnd (afterReply k reply next (Machine.issue k r s)) (afterReply k reply next (Machine.issue k r s')) := by
  have hissued := h.issue k r
  cases reply with
  | answered a => exact hnext a _ _ hissued
  | failed => exact hissued.raise _
  | never => exact hissued.waiting hk

theorem Alike.readSnapshot {k : BitVec 2} (hk : k ≠ 0) {next : Snapshot → State → State}
    (hnext : ∀ S u u', Alike u u' → SameEnd (next S u) (next S u')) :
    SameEnd (readSnapshot k next s) (readSnapshot k next s') := by
  unfold Machine.readSnapshot
  rw [snapshotReply_congr h.bus h.traffic]
  exact h.afterReply hk _ _ hnext

theorem Alike.writeRegister {k : BitVec 2} (hk : k ≠ 0) (off val : Byte) {next : State → State}
    (hnext : ∀ u u', Alike u u' → SameEnd (next u) (next u')) :
    SameEnd (writeRegister k off val next s) (writeRegister k off val next s') := by
  unfold Machine.writeRegister
  rw [writtenReply_congr h.bus h.traffic]
  exact h.afterReply hk _ _ fun _ => hnext

/-! ## The six commands -/

theorem Alike.captureGeometry (hg : s.geomPort = s'.geomPort) : SameEnd (captureGeometry s) (captureGeometry s') := by
  unfold Machine.captureGeometry
  rw [← h.constructed, ← hg]
  split
  · exact h.raise _
  · refine Alike.succeed ?_ (.none _ _)
    exact { h with constructed := rfl, rot := rfl, width := rfl, height := rfl }

theorem Alike.writeConfig (off val : Byte) : SameEnd (writeConfig off val s) (writeConfig off val s') := by
  unfold Machine.writeConfig
  rw [← h.params]
  split
  · exact h.writeRegister (by decide) off val fun u u' hu => hu.succeed (.none u u')
  · exact h.raise _

theorem Alike.copySnapshot : SameEnd (copySnapshot s) (copySnapshot s') := by
  refine h.readSnapshot (by decide) fun S u u' hu => Alike.succeed ?_ ?_
  · exact { hu with }
  · exact { snap := fun _ => rfl, touch := absurd rfl, count := absurd rfl, points := absurd rfl }

theorem Alike.queryCount : SameEnd (queryCount s) (queryCount s') := by
  refine h.readSnapshot (by decide) fun S u u' hu => Alike.succeed ?_ ?_
  · exact { hu with }
  · exact { snap := absurd rfl, touch := absurd rfl, count := fun _ => rfl, points := absurd rfl }

/-- The end of TOUCHED under either policy. -/
theorem Alike.succeed_touched (v : BitVec 2) :
    SameEnd (Machine.succeed (resultFlag .touched) { s with rTouch := v })
      (Machine.succeed (resultFlag .touched) { s' with rTouch := v }) := by
  refine Alike.succeed ?_ ?_
  · exact { h with }
  · exact { snap := absurd rfl, touch := fun _ => rfl, count := absurd rfl, points := absurd rfl }

theorem Alike.queryTouched : SameEnd (queryTouched s) (queryTouched s') := by
  unfold Machine.queryTouched
  rw [← h.params]
  split
  · exact h.readSnapshot (by decide) fun S u u' hu => hu.succeed_touched _
  · exact h.readSnapshot (by decide) fun Sa u u' hu =>
      hu.readSnapshot (by decide) fun Sb v v' hv => hv.succeed_touched _

theorem Alike.pointsSingle : SameEnd (pointsSingle s) (pointsSingle s') := by
  refine h.readSnapshot (by decide) fun S u u' hu => ?_
  split
  · refine hu.whenRotation fun r => ?_
    rw [hu.width, hu.height]
    split <;> exact hu.finishPoints _
  · exact hu.finishPoints _

theorem Alike.perStepPairs (Sa Sb : Snapshot) (r : Rotation) :
    SameEnd (perStepPairs Sa Sb r s) (perStepPairs Sa Sb r s') := by
  unfold Machine.perStepPairs
  split
  · refine h.readSnapshot (by decide) fun Sc u u' hu => ?_
    rw [hu.width, hu.height]
    exact hu.finishPoints _
  · rw [h.width, h.height]
    exact h.finishPoints _

theorem Alike.pointsPerStep : SameEnd (pointsPerStep s) (pointsPerStep s') := by
  refine h.readSnapshot (by decide) fun Sa u u' hu => ?_
  split
  · exact hu.readSnapshot (by decide) fun Sb v v' hv => hv.whenRotation fun r => hv.perStepPairs Sa Sb r
  · exact hu.finishPoints _

theorem Alike.queryPoints : SameEnd (queryPoints s) (queryPoints s') := by
  unfold Machine.queryPoints
  rw [← h.params]
  split
  · exact h.pointsSingle
  · exact h.pointsPerStep

theorem Alike.work (i : Instr) (hg : s.geomPort = s'.geomPort) : SameEnd (work i s) (work i s') := by
  cases i with
  | init => exact h.captureGeometry hg
  | wrreg off val => exact h.whenConstructed (h.writeConfig off val)
  | rdsnap => exact h.whenConstructed h.copySnapshot
  | touched => exact h.whenConstructed h.queryTouched
  | count => exact h.whenConstructed h.queryCount
  | points => exact h.whenConstructed h.queryPoints

end

/-- Settles O41: acceptance makes the two blocks alike, and the command's work takes them to the same end. -/
theorem nothingSurvivesAnOperation : Obligations.NothingSurvivesAnOperation := by
  intro i s s' hs hs' hc hrot hwidth hheight hparams hgeom hbus htraffic
  have hblock : SameBlock s s' := ⟨hs.trans hs'.symm, hc, hrot, hwidth, hheight, hparams, hbus, htraffic⟩
  obtain ⟨⟨hseq, hc, hrot, hwidth, hheight, -, hbus, htraffic⟩, hresponse⟩ := hblock.accept.work i hgeom
  refine ⟨_, _, exec_eq_work i s, exec_eq_work i s', ?_⟩
  rw [whenReady_idle _ _ hs, whenReady_idle _ _ hs']
  exact ⟨hresponse, hseq, hc, hrot, hwidth, hheight, hbus, htraffic⟩

end Sys2Proof.Machine
end

section
/-! The same over a run (`70_reset_and_hazards.md` R206), by induction on its commands. -/

namespace Sys2Proof.Machine

/-- What a presented word does once it has been accepted: the command's work, or the fault of an illegal word (R74). -/
def wordWork (w : CmdWord) (s : State) : State :=
  match decode w with
  | .ok i => work i s
  | .error _ => raise (.illegalCommand w) s

theorem Alike.wordWork {s s' : State} (h : Alike s s') (w : CmdWord) (hg : s.geomPort = s'.geomPort) :
    SameEnd (wordWork w s) (wordWork w s') := by
  unfold Machine.wordWork
  split
  · exact h.work _ hg
  · exact h.raise _

/-- A presented word, accepted or not, leaves the pins of the later steps. -/
theorem whenReady_wordWork_inputs (w : CmdWord) (s : State) : (whenReady (wordWork w) s).inputs = s.inputs := by
  by_cases hs : s.seq = 0
  · rw [whenReady_idle _ _ hs, wordWork]
    split
    · obtain ⟨-, -, hinputs, -⟩ := (work_ends _ (accept s) hs).frame
      exact hinputs
    · rfl
  · rw [whenReady_busy _ _ hs]

/-- A step that presents a command is the word's work behind the ready test. -/
theorem step_pins {s : State} {p : Presentation} {later : List Inputs} (h : s.inputs = p.pins :: later) :
    step s = .next (whenReady (wordWork p.word) (sampleInputs s)) := by
  have hword : presentedWord s = some p.word := by simp [presentedWord, h, Presentation.pins]
  unfold step
  rw [hword]
  cases hd : decode p.word with
  | ok i =>
    have hwork : wordWork p.word = work i := by funext u; simp [wordWork, hd]
    simp only [hd, hwork, exec_eq_work]
  | error e =>
    have hwork : wordWork p.word = raise (.illegalCommand p.word) := by funext u; simp [wordWork, hd]
    simp only [hd, hwork, illegalCommand]

theorem sampleInputs_geomPort_pins {s : State} {p : Presentation} {later : List Inputs} (h : s.inputs = p.pins :: later) :
    (sampleInputs s).geomPort = p.geom := by
  rw [sampleInputs_cons s _ _ h]
  rfl

theorem SameBlock.sampleInputs {s s' : State} (h : SameBlock s s') : SameBlock (sampleInputs s) (sampleInputs s') := by
  constructor <;> simp [h.seq, h.constructed, h.rot, h.width, h.height, h.params, h.bus, h.traffic]

/-- One step with the same command takes the same blocks to the same blocks, and the same is seen of both. -/
theorem step_congr {s s' : State} {p : Presentation} {later : List Inputs} (h : SameBlock s s')
    (hi : s.inputs = p.pins :: later) (hi' : s'.inputs = p.pins :: later) :
    ∃ t t', step s = .next t ∧ step s' = .next t' ∧ t.inputs = later ∧ t'.inputs = later ∧ SameBlock t t' ∧
      endedOperation s t = endedOperation s' t' := by
  have hgeom : (sampleInputs s).geomPort = (sampleInputs s').geomPort := by
    rw [sampleInputs_geomPort_pins hi, sampleInputs_geomPort_pins hi']
  refine ⟨_, _, step_pins hi, step_pins hi', by simp [whenReady_wordWork_inputs, hi],
    by simp [whenReady_wordWork_inputs, hi'], ?_⟩
  by_cases hs : s.seq = 0
  · have hs' : s'.seq = 0 := h.seq ▸ hs
    rw [whenReady_idle _ _ (by simpa using hs), whenReady_idle _ _ (by simpa using hs')]
    obtain ⟨hblock, hresponse⟩ := h.sampleInputs.accept.wordWork p.word hgeom
    refine ⟨hblock, ?_⟩
    have hready : acceptsCommand s = true := by rw [acceptsCommand_pins hi, hs]; rfl
    have hready' : acceptsCommand s' = true := by rw [acceptsCommand_pins hi', hs']; rfl
    rw [endedOperation_accepted _ hready, endedOperation_accepted _ hready', hresponse]
  · have hs' : s'.seq ≠ 0 := h.seq ▸ hs
    rw [whenReady_busy _ _ (by simpa using hs), whenReady_busy _ _ (by simpa using hs')]
    refine ⟨h.sampleInputs, ?_⟩
    have hnot : acceptsCommand s = false := by rw [acceptsCommand_pins hi]; exact beq_eq_false_iff_ne.mpr hs
    have hnot' : acceptsCommand s' = false := by rw [acceptsCommand_pins hi']; exact beq_eq_false_iff_ne.mpr hs'
    rw [endedOperation_none _ hnot, endedOperation_none _ hnot']

theorem observe_congr (commands : List Presentation) : ∀ {s s' : State}, SameBlock s s' →
    s.inputs = commands.map Presentation.pins → s'.inputs = commands.map Presentation.pins →
    observe commands.length s = observe commands.length s' := by
  induction commands with
  | nil =>
    intro s s' h _ _
    simp only [List.length_nil, observe_zero, h.seq]
  | cons p later ih =>
    intro s s' h hi hi'
    obtain ⟨t, t', hstep, hstep', hlater, hlater', hblock, hended⟩ := step_congr h hi hi'
    have htransactions : newTransactions s t = newTransactions s' t' := by
      simp only [newTransactions, h.traffic, hblock.traffic]
    rw [List.length_cons, observe_succ _ hstep, observe_succ _ hstep', ih hblock hlater hlater', hended, htransactions]

/-- Settles O53: with commands and draws in place the two start states are the same blocks. -/
theorem runsForgetEarlierResults : Obligations.RunsForgetEarlierResults := by
  intro s s' commands draws hs hs' hc hrot hwidth hheight hparams htraffic
  have hblock : SameBlock (Run.initial ⟨s, commands, draws⟩) (Run.initial ⟨s', commands, draws⟩) :=
    ⟨hs.trans hs'.symm, hc, hrot, hwidth, hheight, hparams, rfl, htraffic⟩
  exact observe_congr commands hblock rfl rfl

end Sys2Proof.Machine
end

section
/-! What the bus answers to a request, and how the two primitives take it (`20_memory.md` section 3). -/

namespace Sys2Proof.Machine

/-! ## How an answer is taken -/

/-- 189 bytes are the snapshot made of them, in their order. -/
theorem asSnapshot_ok_of_length {bytes : List Byte} (h : bytes.length = 189) :
    asSnapshot (.ok bytes) = .answered ⟨bytes.toArray, by simpa using h⟩ := dif_pos h

theorem asSnapshot_ok_of_length_ne {bytes : List Byte} (h : bytes.length ≠ 189) : asSnapshot (.ok bytes) = .failed :=
  dif_neg h

@[simp] theorem asSnapshot_failure : asSnapshot .failure = .failed := rfl
@[simp] theorem asSnapshot_never : asSnapshot .never = .never := rfl

@[simp] theorem asWritten_ok (bytes : List Byte) : asWritten (.ok bytes) = .answered () := rfl
@[simp] theorem asWritten_failure : asWritten .failure = .failed := rfl
@[simp] theorem asWritten_never : asWritten .never = .never := rfl

/-- Settles O26: the length decides, and a snapshot indexes the bytes it is made of. -/
theorem snapshotAnswerLength : Obligations.SnapshotAnswerLength := by
  refine fun bytes => ⟨fun h => ⟨_, asSnapshot_ok_of_length h, fun k hk => ?_⟩, asSnapshot_ok_of_length_ne,
    asSnapshot_failure, asSnapshot_never⟩
  rw [Vector.getElem_mk, List.getElem_toArray]

/-- Settles O46: one equation for each kind of answer. -/
theorem writeAnswerIsSuccessOrFailure : Obligations.WriteAnswerIsSuccessOrFailure :=
  ⟨asWritten_ok, asWritten_failure, asWritten_never⟩

/-! ## Which answer a request gets -/

/-- With the script used up the answer is the free one (log entry 2); `answerTo_cons` is the scripted one. -/
theorem answerTo_nil {s : State} (h : s.bus = []) (r : BusRequest) :
    s.answerTo r = Config.freeAnswer (s.traffic ++ [r]) := by
  simp [State.answerTo, h]

/-- The requests issued once `n` whole reads are done and the next is made are `n + 1` whole reads. -/
theorem readsDone_traffic_snoc (n : Nat) (s : State) :
    (s.readsDone n).traffic ++ [snapshotRequest] = s.traffic ++ List.replicate (n + 1) snapshotRequest := by
  rw [readsDone_traffic, List.append_assoc, List.replicate_succ']

theorem replyAfter_scripted {s : State} {n : Nat} {a : BusAnswer} {later : List BusAnswer}
    (h : s.bus.drop n = a :: later) : replyAfter n s = asSnapshot a := by
  have hbus : (s.readsDone n).bus = a :: later := h
  rw [replyAfter, snapshotReply, answerTo_cons hbus]

theorem replyAfter_free {s : State} {n : Nat} (h : s.bus.drop n = []) :
    replyAfter n s = asSnapshot (Config.freeAnswer (s.traffic ++ List.replicate (n + 1) snapshotRequest)) := by
  have hbus : (s.readsDone n).bus = [] := h
  rw [replyAfter, snapshotReply, answerTo_nil hbus, readsDone_traffic_snoc]

theorem writtenReply_scripted {s : State} {a : BusAnswer} {later : List BusAnswer} (h : s.bus = a :: later)
    (off val : Byte) : writtenReply off val s = asWritten a := by
  rw [writtenReply, answerTo_cons h]

theorem writtenReply_free {s : State} (h : s.bus = []) (off val : Byte) :
    writtenReply off val s = asWritten (Config.freeAnswer (s.traffic ++ [writeRequest off val])) := by
  rw [writtenReply, answerTo_nil h]

/-- Settles O47: reads and writes, each with the script and beyond it. -/
theorem repliesAreTheBusAnswers : Obligations.RepliesAreTheBusAnswers := fun _ =>
  ⟨fun _ _ _ => replyAfter_scripted, fun _ => replyAfter_free,
    fun _ _ h => ⟨answerTo_cons h, writtenReply_scripted h⟩, fun h => ⟨answerTo_nil h, writtenReply_free h⟩⟩

end Sys2Proof.Machine
end

section
/-! The command words (`30_encoding.md` R70 to R74): a word is its three fields, and the decoder and the encoder are both
said field by field. -/

namespace Sys2Proof.Machine

/-! ## The fields of a word (R70) -/

theorem word_eq_iff_fields {w v : CmdWord} :
    w = v ↔ opField w = opField v ∧ offField w = offField v ∧ valField w = valField v := by
  refine ⟨?_, fun ⟨hop, hoff, hval⟩ => word_eq_of_fields hop hoff hval⟩
  rintro rfl
  exact ⟨rfl, rfl, rfl⟩

@[simp] theorem opField_and (w v : CmdWord) : opField (w &&& v) = opField w &&& opField v := BitVec.extractLsb'_and
@[simp] theorem offField_and (w v : CmdWord) : offField (w &&& v) = offField w &&& offField v := BitVec.extractLsb'_and
@[simp] theorem valField_and (w v : CmdWord) : valField (w &&& v) = valField w &&& valField v := BitVec.extractLsb'_and
@[simp] theorem opField_or (w v : CmdWord) : opField (w ||| v) = opField w ||| opField v := BitVec.extractLsb'_or
@[simp] theorem offField_or (w v : CmdWord) : offField (w ||| v) = offField w ||| offField v := BitVec.extractLsb'_or
@[simp] theorem valField_or (w v : CmdWord) : valField (w ||| v) = valField w ||| valField v := BitVec.extractLsb'_or

theorem opField_toNat (w : CmdWord) : (opField w).toNat = (w >>> 16).toNat := by
  simp only [opField, BitVec.extractLsb'_toNat, BitVec.toNat_ushiftRight, Nat.shiftRight_eq_div_pow]
  omega

/-- A byte widened is a word of its low field only. -/
theorem fields_setWidth (b : Byte) :
    opField (b.setWidth 24) = 0 ∧ offField (b.setWidth 24) = 0 ∧ valField (b.setWidth 24) = b := by
  simp only [opField, offField, valField, ← BitVec.toNat_inj, BitVec.extractLsb'_toNat, BitVec.toNat_setWidth,
    Nat.shiftRight_eq_div_pow, BitVec.ofNat_eq_ofNat, BitVec.toNat_ofNat]
  omega

/-- A byte widened and shifted by one field is a word of its middle field only. -/
theorem fields_setWidth_shift (b : Byte) :
    opField (b.setWidth 24 <<< 8) = 0 ∧ offField (b.setWidth 24 <<< 8) = b ∧ valField (b.setWidth 24 <<< 8) = 0 := by
  simp only [opField, offField, valField, ← BitVec.toNat_inj, BitVec.extractLsb'_toNat, BitVec.toNat_setWidth,
    BitVec.toNat_shiftLeft, Nat.shiftLeft_eq, Nat.shiftRight_eq_div_pow, BitVec.ofNat_eq_ofNat, BitVec.toNat_ofNat]
  omega

/-! ## The fields of a command (R72, R73) -/

/-- The opcode of a command. -/
def opcode : Instr → Byte
  | .init => 0x01
  | .wrreg _ _ => 0x02
  | .rdsnap => 0x03
  | .touched => 0x04
  | .count => 0x05
  | .points => 0x06

/-- The two operand fields of a command: zero but for WRREG's. -/
def operands : Instr → Byte × Byte
  | .wrreg off val => (off, val)
  | .init | .rdsnap | .touched | .count | .points => (0, 0)

/-- The three fields of `w` are those of command `i`. -/
def HasFieldsOf (w : CmdWord) (i : Instr) : Prop :=
  opField w = opcode i ∧ offField w = (operands i).1 ∧ valField w = (operands i).2

theorem encode_hasFieldsOf (i : Instr) : HasFieldsOf (encode i) i := by
  cases i with
  | wrreg off val =>
    have hopcode : opField 0x020000#24 = 2 ∧ offField 0x020000#24 = 0 ∧ valField 0x020000#24 = 0 := by decide
    simp [HasFieldsOf, encode, opcode, operands, hopcode, fields_setWidth, fields_setWidth_shift]
  | init | rdsnap | touched | count | points => unfold HasFieldsOf; decide

/-- The only word with the fields of a command is its own. -/
theorem HasFieldsOf.eq_encode {w : CmdWord} {i : Instr} (h : HasFieldsOf w i) : w = encode i := by
  obtain ⟨hop, hoff, hval⟩ := h
  obtain ⟨hop', hoff', hval'⟩ := encode_hasFieldsOf i
  exact word_eq_of_fields (hop.trans hop'.symm) (hoff.trans hoff'.symm) (hval.trans hval'.symm)

theorem hasFieldsOf_iff_eq_encode {w : CmdWord} {i : Instr} : HasFieldsOf w i ↔ w = encode i :=
  ⟨HasFieldsOf.eq_encode, fun h => h ▸ encode_hasFieldsOf i⟩

/-! ## The decoder -/

theorem decodePlain_ok {w : CmdWord} (i : Instr) (h : offField w = 0 ∧ valField w = 0) : decodePlain w i = .ok i :=
  if_pos h

/-- A command without operands is accepted with the fields it has (R73). -/
theorem hasFieldsOf_of_decodePlain {w : CmdWord} {i j : Instr} (hop : opField w = opcode i) (hi : operands i = (0, 0))
    (h : decodePlain w i = .ok j) : HasFieldsOf w j := by
  unfold decodePlain at h
  split at h
  case isTrue hzero =>
    obtain rfl := Except.ok.inj h
    rwa [HasFieldsOf, hi, and_iff_right hop]
  case isFalse => simp at h

theorem hasFieldsOf_of_decode {w : CmdWord} {i : Instr} (h : decode w = .ok i) : HasFieldsOf w i := by
  unfold decode at h
  split_ifs at h
  next hop => exact hasFieldsOf_of_decodePlain (i := .init) hop rfl h
  next hop =>
    obtain rfl := Except.ok.inj h
    exact ⟨hop, rfl, rfl⟩
  next hop => exact hasFieldsOf_of_decodePlain (i := .rdsnap) hop rfl h
  next hop => exact hasFieldsOf_of_decodePlain (i := .touched) hop rfl h
  next hop => exact hasFieldsOf_of_decodePlain (i := .count) hop rfl h
  next hop => exact hasFieldsOf_of_decodePlain (i := .points) hop rfl h

theorem HasFieldsOf.decode {w : CmdWord} {i : Instr} (h : HasFieldsOf w i) : decode w = .ok i := by
  obtain ⟨hop, hoperands⟩ := h
  cases i with
  | wrreg off val =>
    obtain ⟨rfl, rfl⟩ := hoperands
    simp [Sys2Proof.decode, hop, opcode]
  | init | rdsnap | touched | count | points =>
    simpa [Sys2Proof.decode, hop, opcode] using decodePlain_ok _ hoperands

/-- The decoder inverts the encoder and accepts nothing else (R72, R73). -/
theorem decode_eq_ok_iff {w : CmdWord} {i : Instr} : decode w = .ok i ↔ w = encode i :=
  ⟨fun h => (hasFieldsOf_of_decode h).eq_encode, fun h => (hasFieldsOf_iff_eq_encode.2 h).decode⟩

/-- Settles O1: the word of a command has the command's fields, and the decoder looks at nothing else. -/
theorem decodeOfEncode : Obligations.DecodeOfEncode := fun _ => decode_eq_ok_iff.2 rfl

/-- Settles O4: seven of the words are those that the encoder makes. -/
theorem specWordsDecode : Obligations.SpecWordsDecode :=
  ⟨decodeOfEncode .init, decodeOfEncode (.wrreg 0x80 0x28), decodeOfEncode (.wrreg 0xBC 0xFF), decodeOfEncode .rdsnap,
    decodeOfEncode .touched, decodeOfEncode .count, decodeOfEncode .points, by decide, by decide⟩

/-! ## Match and mask (R72) -/

/-- A mask's full field keeps the byte. -/
theorem byte_and_full (b : Byte) : b &&& 0xFF#8 = b := BitVec.and_allOnes

/-- WRREG's mask keeps the opcode and drops both operand fields. -/
theorem and_opcodeMask_eq_iff {w : CmdWord} : w &&& 0xFF0000 = 0x020000 ↔ opField w = 0x02 := by
  have hmask : opField 0xFF0000#24 = 0xFF ∧ offField 0xFF0000#24 = 0 ∧ valField 0xFF0000#24 = 0 := by decide
  have hmatch : opField 0x020000#24 = 0x02 ∧ offField 0x020000#24 = 0 ∧ valField 0x020000#24 = 0 := by decide
  simp [word_eq_iff_fields, byte_and_full, hmask, hmatch]

/-- Bits 15..0 are the two operand fields. -/
theorem and_operandMask_eq_zero_iff {w : CmdWord} : w &&& 0x00FFFF = 0 ↔ offField w = 0 ∧ valField w = 0 := by
  have hmask : opField 0x00FFFF#24 = 0 ∧ offField 0x00FFFF#24 = 0xFF ∧ valField 0x00FFFF#24 = 0xFF := by decide
  have hzero : opField 0#24 = 0 ∧ offField 0#24 = 0 ∧ valField 0#24 = 0 := by decide
  simp [word_eq_iff_fields, byte_and_full, hmask, hzero]

/-- A word is a WRREG by its opcode alone: any operands are well-formed (R73). -/
theorem decode_wrreg_iff {w : CmdWord} : (∃ off val, decode w = .ok (.wrreg off val)) ↔ opField w = 0x02 := by
  constructor
  · rintro ⟨off, val, h⟩
    obtain ⟨hop, -⟩ := hasFieldsOf_of_decode h
    exact hop
  · intro hop
    have hfields : HasFieldsOf w (.wrreg (offField w) (valField w)) := ⟨hop, rfl, rfl⟩
    exact ⟨_, _, hfields.decode⟩

/-- Settles O2: WRREG by its opcode, the five others each by its one word. -/
theorem decodeByMatchAndMask : Obligations.DecodeByMatchAndMask := fun _ =>
  ⟨decode_eq_ok_iff, decode_wrreg_iff.trans and_opcodeMask_eq_iff.symm, decode_eq_ok_iff, decode_eq_ok_iff,
    decode_eq_ok_iff, decode_eq_ok_iff⟩

/-! ## The illegal words (R74) -/

/-- Each assigned opcode but WRREG's is that of a command without operands (R72). -/
theorem exists_plain_of_opcode {op : Byte} (hlow : 1 ≤ op.toNat) (hhigh : op.toNat ≤ 6) (hne : op.toNat ≠ 2) :
    ∃ i, op = opcode i ∧ operands i = (0, 0) := by
  have hop : op = 0x01 ∨ op = 0x03 ∨ op = 0x04 ∨ op = 0x05 ∨ op = 0x06 := by bv_omega
  obtain rfl | rfl | rfl | rfl | rfl := hop
  · exact ⟨.init, rfl, rfl⟩
  · exact ⟨.rdsnap, rfl, rfl⟩
  · exact ⟨.touched, rfl, rfl⟩
  · exact ⟨.count, rfl, rfl⟩
  · exact ⟨.points, rfl, rfl⟩

/-- The words of the six commands: an assigned opcode, and operands only in a WRREG. -/
theorem exists_hasFieldsOf_iff {w : CmdWord} :
    (∃ i, HasFieldsOf w i) ↔
      (1 ≤ (opField w).toNat ∧ (opField w).toNat ≤ 6) ∧
        ((opField w).toNat = 2 ∨ offField w = 0 ∧ valField w = 0) := by
  constructor
  · rintro ⟨i, hop, hoperands⟩
    rw [hop]
    cases i with
    | wrreg off val => simp [opcode]
    | init | rdsnap | touched | count | points => exact ⟨by decide, .inr hoperands⟩
  · rintro ⟨⟨hlow, hhigh⟩, hoperands⟩
    by_cases hwrreg : (opField w).toNat = 2
    · exact ⟨.wrreg (offField w) (valField w), BitVec.eq_of_toNat_eq hwrreg, rfl, rfl⟩
    · obtain ⟨i, hop, hplain⟩ := exists_plain_of_opcode hlow hhigh hwrreg
      exact ⟨i, hop, by simpa [hplain] using hoperands.resolve_left hwrreg⟩

/-- The decoder rejects the words that are no command's. -/
theorem decode_error_iff {w : CmdWord} : (∃ e, decode w = .error e) ↔ ¬ ∃ i, HasFieldsOf w i := by
  cases hd : decode w with
  | ok i => simpa using ⟨i, hasFieldsOf_of_decode hd⟩
  | error e =>
    refine iff_of_true ⟨e, rfl⟩ ?_
    rintro ⟨i, hi⟩
    simp [hi.decode] at hd

/-- Settles O3: an accepted word has the fields of its command; the rejected ones have those of none. -/
theorem everyWordIsOneCommandOrIllegal : Obligations.EveryWordIsOneCommandOrIllegal := by
  refine ⟨fun w i h => (decode_eq_ok_iff.1 h).symm, fun w => ?_⟩
  have hrange (op : Nat) : (op = 0x00 ∨ 0x07 ≤ op) ↔ ¬ (1 ≤ op ∧ op ≤ 6) := by omega
  rw [decode_error_iff, exists_hasFieldsOf_iff, opField_toNat, hrange, Ne, Ne, and_operandMask_eq_zero_iff]
  tauto

end Sys2Proof.Machine
end

section
/-! One step by what its pins hold (`30_encoding.md` R71, R74), and any number of steps (`60_exceptions.md` R174, R175). -/

namespace Sys2Proof.Machine

/-! ## The pins of a step -/

section
variable {s : State} {p : Inputs} {rest : List Inputs} (h : s.inputs = p :: rest) (hr : p.reset = false)
include h hr

theorem presentedWord_cons : presentedWord s = p.cmd := by simp [presentedWord, h, hr]

theorem resetAsserted_cons : resetAsserted s = false := by simp [resetAsserted, h, hr]

end

/-! ## What the step does -/

theorem step_of_decode_ok {s : State} {w : CmdWord} {i : Instr} (hw : presentedWord s = some w)
    (hd : decode w = .ok i) : step s = exec i (sampleInputs s) := by
  simp [step, hw, hd]

theorem step_of_decode_error {s : State} {w : CmdWord} {e : Illegal} (hw : presentedWord s = some w)
    (hd : decode w = .error e) : step s = .next (illegalCommand w (sampleInputs s)) := by
  simp [step, hw, hd]

/-- In a busy block a step that is no reset takes the pins, whatever they hold (R71). -/
theorem step_busy {s : State} (hs : s.seq ≠ 0) (hr : resetAsserted s = false) : step s = .next (sampleInputs s) := by
  have hbusy : (sampleInputs s).seq ≠ 0 := by rwa [sampleInputs_seq]
  obtain ⟨-, -, hquiet⟩ | ⟨-, hreset, -⟩ | ⟨w, e, -, -, hillegal⟩ | ⟨w, i, -, -, hexec⟩ := step_cases s
  · exact hquiet
  · simp [hr] at hreset
  · rw [hillegal, illegalCommand, whenReady_busy _ _ hbusy]
  · rw [hexec, exec_eq_work, whenReady_busy _ _ hbusy]

/-- A fault at acceptance: with the flags cleared, the status registers are all that is written (R174). -/
theorem raise_accept {s : State} (c : Cause) (hs : s.seq = 0) :
    raise c (accept s) = { s with rValid := 0b0000, rStatus := c.code, rFinfo := c.info } := by
  simp [raise, accept, hs]

/-- Settles O5: the word on the port is the one the step decodes. -/
theorem stepRunsThePresentedCommand : Obligations.StepRunsThePresentedCommand := by
  intro s p rest w i h hr hw hd
  rw [step_of_decode_ok ((presentedWord_cons h hr).trans hw) hd, sampleInputs_cons s p rest h]

/-- Settles O6: the illegal word is accepted, and its fault is all its operation does. -/
theorem illegalWordFaultsAtOnce : Obligations.IllegalWordFaultsAtOnce := by
  intro s p rest w e h hr hw hd hs
  have hidle : (sampleInputs s).seq = 0 := by rwa [sampleInputs_seq]
  rw [step_of_decode_error ((presentedWord_cons h hr).trans hw) hd, illegalCommand, whenReady_idle _ _ hidle,
    raise_accept _ hidle, sampleInputs_cons s p rest h]
  rfl

/-- Settles O7: the ready test stands before every command's work and before the fault of an illegal word. -/
theorem busyBlockAcceptsNothing : Obligations.BusyBlockAcceptsNothing := by
  intro s p rest h hr hs
  rw [step_busy hs (resetAsserted_cons h hr), sampleInputs_cons s p rest h]

/-! ## Any number of steps -/

/-- Each of the four things a step can be is a next state. -/
theorem step_goes_on (s : State) : ∃ t, step s = .next t := by
  obtain ⟨-, -, hquiet⟩ | ⟨-, -, hreset⟩ | ⟨w, e, -, -, hillegal⟩ | ⟨w, i, -, -, hexec⟩ := step_cases s
  · exact ⟨_, hquiet⟩
  · exact ⟨_, hreset⟩
  · exact ⟨_, hillegal⟩
  · exact ⟨_, hexec.trans (exec_eq_work i _)⟩

/-- Settles O45: by induction on the number of steps, each of which goes on and keeps the invariant. -/
theorem everyRunGoesThrough : Obligations.EveryRunGoesThrough := by
  intro n
  induction n with
  | zero => exact fun s hs => ⟨s, rfl, hs⟩
  | succ n ih =>
    intro s hs
    obtain ⟨t, hstep⟩ := step_goes_on s
    rw [run_succ_of_next n hstep]
    exact ih t (everyStepKeepsInv s t hs hstep)

end Sys2Proof.Machine
end

section
/-! What the block never interprets (`20_memory.md` R45): snapshots alike in the nine interpreted bytes give every query the
same data, and scripts of such snapshots take every command but RDSNAP to the same end. -/

namespace Sys2Proof.Machine

/-! ## The data of the queries -/

/-- The flag of a high-X byte is in its bits 7..6 (R122). -/
theorem touchFlag_mask (xh : Byte) : touchFlag (xh &&& 0xCF#8) = touchFlag xh := by
  revert xh; decide

/-- A coordinate takes bits 3..0 of its high byte (R140). -/
theorem coord12_low_nibble (high low : Byte) : coord12 (high &&& 0x0F#8) low = coord12 high low := by
  simp [coord12, BitVec.and_assoc]

/-- Those bits lie within what R45 calls interpreted of a high-X byte. -/
theorem coord12_mask (high low : Byte) : coord12 (high &&& 0xCF#8) low = coord12 high low := by
  rw [← coord12_low_nibble (high &&& 0xCF#8), ← coord12_low_nibble high, BitVec.and_assoc]
  rfl

theorem SameInterpreted.refl (S : Snapshot) : SameInterpreted S S := by simp [SameInterpreted]

section
variable {S S' : Snapshot} (h : SameInterpreted S S')
include h

theorem SameInterpreted.tdStatus : regByte S .tdStatus = regByte S' .tdStatus := by
  obtain ⟨hcount, -⟩ := h
  rwa [regByte_tdStatus, regByte_tdStatus]

theorem SameInterpreted.slotTouched (k : Slot) : slotTouched S k = slotTouched S' k := by
  obtain ⟨-, hxh1, -, -, -, hxh2, -⟩ := h
  unfold Machine.slotTouched
  cases k with
  | slot1 => rw [regByte_xh1, regByte_xh1, ← touchFlag_mask, hxh1, touchFlag_mask]
  | slot2 => rw [regByte_xh2, regByte_xh2, ← touchFlag_mask, hxh2, touchFlag_mask]

theorem SameInterpreted.coordX (k : Slot) :
    coord12 (regByte S (.xh k)) (regByte S (.xl k)) = coord12 (regByte S' (.xh k)) (regByte S' (.xl k)) := by
  obtain ⟨-, hxh1, hxl1, -, -, hxh2, hxl2, -⟩ := h
  cases k with
  | slot1 => rw [regByte_xh1, regByte_xl1, regByte_xh1, regByte_xl1, ← coord12_mask, hxh1, hxl1, coord12_mask]
  | slot2 => rw [regByte_xh2, regByte_xl2, regByte_xh2, regByte_xl2, ← coord12_mask, hxh2, hxl2, coord12_mask]

theorem SameInterpreted.coordY (k : Slot) :
    coord12 (regByte S (.yh k)) (regByte S (.yl k)) = coord12 (regByte S' (.yh k)) (regByte S' (.yl k)) := by
  obtain ⟨-, -, -, hyh1, hyl1, -, -, hyh2, hyl2⟩ := h
  cases k with
  | slot1 =>
    rw [regByte_yh1, regByte_yl1, regByte_yh1, regByte_yl1, ← coord12_low_nibble, hyh1, hyl1, coord12_low_nibble]
  | slot2 =>
    rw [regByte_yh2, regByte_yl2, regByte_yh2, regByte_yl2, ← coord12_low_nibble, hyh2, hyl2, coord12_low_nibble]

theorem SameInterpreted.slotPoint (r : Rotation) (width height : Geom16) (k : Slot) :
    slotPoint r width height S k = slotPoint r width height S' k := by
  simp only [Machine.slotPoint, rawPoint, h.coordX k, h.coordY k]

end

/-! ## Two blocks with scripts of such snapshots -/

/-- Two blocks alike but for the bus, with scripts that agree answer by answer in the sense `same`. -/
structure ScriptsAgree (same : Snapshot → Snapshot → Prop) (s s' : State) : Prop where
  sameButBus : SameButBus s s'
  scripts : List.Forall₂ (AnswersAgree same) s.bus s'.bus

section
variable {s s' : State} (h : SameButBus s s')
include h

theorem SameButBus.seq : s'.seq = s.seq := by rw [h, withBus_seq]
theorem SameButBus.constructed : s'.constructed = s.constructed := by rw [h, withBus_constructed]
theorem SameButBus.width : s'.width = s.width := by rw [h, withBus_width]
theorem SameButBus.height : s'.height = s.height := by rw [h, withBus_height]
theorem SameButBus.params : s'.params = s.params := by rw [h, withBus_params]
theorem SameButBus.traffic : s'.traffic = s.traffic := by rw [h, withBus_traffic]

theorem SameButBus.accept : SameButBus (accept s) (accept s') := by
  obtain ⟨b, rfl⟩ := sameButBus_iff.1 h
  rfl

theorem SameButBus.withTouch (v : BitVec 2) : SameButBus { s with rTouch := v } { s' with rTouch := v } := by
  obtain ⟨b, rfl⟩ := sameButBus_iff.1 h
  rfl

theorem SameButBus.withCount (v : Byte) : SameButBus { s with rCount := v } { s' with rCount := v } := by
  obtain ⟨b, rfl⟩ := sameButBus_iff.1 h
  rfl

/-- INIT asks the bus nothing (R103). -/
theorem SameButBus.captureGeometry : SameButBus (captureGeometry s) (captureGeometry s') := by
  unfold Machine.captureGeometry
  rw [h.constructed]
  split
  · exact h.raise _
  · obtain ⟨b, rfl⟩ := sameButBus_iff.1 h
    rfl

theorem SameButBus.whenConstructed {op : State → State} (hop : SameButBus (op s) (op s')) :
    SameButBus (whenConstructed op s) (whenConstructed op s') := by
  cases hc : s.constructed with
  | true => rwa [whenConstructed_true _ _ hc, whenConstructed_true _ _ (h.constructed.trans hc)]
  | false =>
    rw [whenConstructed_false _ _ hc, whenConstructed_false _ _ (h.constructed.trans hc)]
    exact h.raise _

/-- A command agrees but for the bus if its work does once it has been accepted. -/
theorem SameButBus.exec {i : Instr} (hwork : SameButBus (work i (Machine.accept s)) (work i (Machine.accept s'))) :
    AgreeButBus (exec i s) (exec i s') := by
  refine ⟨_, _, exec_eq_work i s, exec_eq_work i s', ?_⟩
  by_cases hs : s.seq = 0
  · rwa [whenReady_idle _ _ hs, whenReady_idle _ _ (h.seq.trans hs)]
  · rwa [whenReady_busy _ _ hs, whenReady_busy _ _ (h.seq ▸ hs)]

end

/-- Of the answer to a write no byte is looked at (R47). -/
theorem asWritten_congr {same : Snapshot → Snapshot → Prop} {a a' : BusAnswer} (h : AnswersAgree same a a') :
    asWritten a = asWritten a' := by
  obtain rfl | ⟨S, S', rfl, rfl, -⟩ := h
  · rfl
  · rw [asWritten_ok, asWritten_ok]

section
variable {same : Snapshot → Snapshot → Prop} {s s' : State} (h : ScriptsAgree same s s')
include h

theorem ScriptsAgree.accept : ScriptsAgree same (accept s) (accept s') := ⟨h.sameButBus.accept, h.scripts⟩

theorem ScriptsAgree.issue (k : BitVec 2) (r : BusRequest) : ScriptsAgree same (issue k r s) (issue k r s') :=
  ⟨h.sameButBus.issue k r, scripts_issue k r h.scripts⟩

/-- A snapshot read ends alike if what follows it does, from snapshots alike and what is left of the scripts. -/
theorem ScriptsAgree.readSnapshot (hsame : ∀ S, same S S) {k : BitVec 2} {next next' : Snapshot → State → State}
    (hnext : ∀ S S' u u', same S S' → ScriptsAgree same u u' → SameButBus (next S u) (next' S' u')) :
    SameButBus (readSnapshot k next s) (readSnapshot k next' s') := by
  refine h.sameButBus.readSnapshot (repliesAgree_of_scripts h.sameButBus h.scripts) fun S S' _ _ hS => ?_
  have hsnapshots : same S S' := hS.elim (fun e => e ▸ hsame S) id
  exact hnext S S' _ _ hsnapshots (h.issue k _)

theorem ScriptsAgree.writtenReply (off val : Byte) : writtenReply off val s = writtenReply off val s' := by
  have hscripts := h.scripts
  unfold Machine.writtenReply State.answerTo
  rw [h.sameButBus.traffic]
  generalize s.bus = answers at hscripts
  generalize s'.bus = answers' at hscripts
  cases hscripts with
  | nil => rfl
  | cons hanswer _ => exact asWritten_congr hanswer

theorem ScriptsAgree.writeRegister {k : BitVec 2} (off val : Byte) {next : State → State}
    (hnext : ∀ u u', SameButBus u u' → SameButBus (next u) (next u')) :
    SameButBus (writeRegister k off val next s) (writeRegister k off val next s') := by
  have hissued := (h.issue k (writeRequest off val)).sameButBus
  unfold Machine.writeRegister
  rw [← h.writtenReply off val]
  cases Machine.writtenReply off val s with
  | answered _ => exact hnext _ _ hissued
  | failed => exact hissued.raise _
  | never => exact hissued

theorem ScriptsAgree.writeConfig (off val : Byte) : SameButBus (writeConfig off val s) (writeConfig off val s') := by
  unfold Machine.writeConfig
  rw [h.sameButBus.params]
  split
  · exact h.writeRegister off val fun _ _ hu => hu.succeed _
  · exact h.sameButBus.raise _

end

/-! ## The queries -/

section
variable {s s' : State} (h : ScriptsAgree SameInterpreted s s')
include h

theorem ScriptsAgree.queryCount : SameButBus (queryCount s) (queryCount s') := by
  refine h.readSnapshot .refl fun S S' u u' hS hu => ?_
  rw [hS.tdStatus]
  exact (hu.sameButBus.withCount _).succeed _

theorem ScriptsAgree.queryTouched : SameButBus (queryTouched s) (queryTouched s') := by
  unfold Machine.queryTouched
  rw [h.sameButBus.params]
  split
  · refine h.readSnapshot .refl fun S S' u u' hS hu => ?_
    rw [hS.slotTouched .slot1, hS.slotTouched .slot2]
    exact (hu.sameButBus.withTouch _).succeed _
  · refine h.readSnapshot .refl fun Sa Sa' u u' hSa hu => hu.readSnapshot .refl fun Sb Sb' v v' hSb hv => ?_
    rw [hSa.slotTouched .slot1, hSb.slotTouched .slot2]
    exact (hv.sameButBus.withTouch _).succeed _

theorem ScriptsAgree.pointsSingle : SameButBus (pointsSingle s) (pointsSingle s') := by
  refine h.readSnapshot .refl fun S S' u u' hS hu => ?_
  rw [hS.tdStatus]
  split
  · refine hu.sameButBus.whenRotation fun r _ => ?_
    rw [hu.sameButBus.width, hu.sameButBus.height, hS.slotPoint r _ _ .slot1, hS.slotPoint r _ _ .slot2]
    split <;> exact hu.sameButBus.finishPoints _
  · exact hu.sameButBus.finishPoints _

theorem ScriptsAgree.perStepPairs (Sa : Snapshot) {Sb Sb' : Snapshot} (hSb : SameInterpreted Sb Sb') (r : Rotation) :
    SameButBus (perStepPairs Sa Sb r s) (perStepPairs Sa Sb' r s') := by
  unfold Machine.perStepPairs
  split
  · refine h.readSnapshot .refl fun Sc Sc' u u' hSc hu => ?_
    rw [hu.sameButBus.width, hu.sameButBus.height, hSb.slotPoint, hSc.slotPoint]
    exact hu.sameButBus.finishPoints _
  · rw [h.sameButBus.width, h.sameButBus.height, hSb.slotPoint]
    exact h.sameButBus.finishPoints _

theorem ScriptsAgree.pointsPerStep : SameButBus (pointsPerStep s) (pointsPerStep s') := by
  refine h.readSnapshot .refl fun Sa Sa' u u' hSa hu => ?_
  rw [hSa.tdStatus]
  split
  · exact hu.readSnapshot .refl fun Sb Sb' v v' hSb hv =>
      hv.sameButBus.whenRotation fun r _ => hv.perStepPairs Sa' hSb r
  · exact hu.sameButBus.finishPoints _

theorem ScriptsAgree.queryPoints : SameButBus (queryPoints s) (queryPoints s') := by
  unfold Machine.queryPoints
  rw [h.sameButBus.params]
  split
  · exact h.pointsSingle
  · exact h.pointsPerStep

/-- The work of every command but RDSNAP, which copies the snapshot whole. -/
theorem ScriptsAgree.work {i : Instr} (hi : i ≠ .rdsnap) : SameButBus (work i s) (work i s') := by
  cases i with
  | init => exact h.sameButBus.captureGeometry
  | wrreg off val => exact h.sameButBus.whenConstructed (h.writeConfig off val)
  | rdsnap => exact absurd rfl hi
  | touched => exact h.sameButBus.whenConstructed h.queryTouched
  | count => exact h.sameButBus.whenConstructed h.queryCount
  | points => exact h.sameButBus.whenConstructed h.queryPoints

end

/-- Settles O39: acceptance leaves the scripts, and the work of the command goes alike along them. -/
theorem uninterpretedBytesDoNotMatter : Obligations.UninterpretedBytesDoNotMatter := by
  intro i s answers answers' hi hanswers
  have h : ScriptsAgree SameInterpreted (s.withBus answers) (s.withBus answers') := ⟨rfl, hanswers⟩
  exact h.sameButBus.exec (h.accept.work hi)

end Sys2Proof.Machine
end

section
/-! INIT and WRREG (`40_construction_and_config.md` R101 to R106): what each command's work does in each case of its tests,
and the ends of an operation that has made one request. -/

namespace Sys2Proof.Machine

/-- An idle block accepts every command. -/
theorem exec_idle (i : Instr) {s : State} (hs : s.seq = 0) : exec i s = .next (work i (accept s)) := by
  rw [exec_eq_work, whenReady_idle _ _ hs]

/-! ## The work of INIT -/

/-- The first INIT captures whatever the port holds (R101, R102). -/
theorem captureGeometry_first {s : State} (hc : s.constructed = false) :
    captureGeometry s = succeed 0 { s with
      rot := s.geomPort.rot, width := s.geomPort.width, height := s.geomPort.height, constructed := true } := by
  simp [captureGeometry, hc, resultFlag]

theorem captureGeometry_again {s : State} (hc : s.constructed = true) :
    captureGeometry s = raise .alreadyConstructed s := if_pos hc

/-- Settles O11: the two cases of the lifecycle test, from the accepted state. -/
theorem initCapturesGeometryOnce : Obligations.InitCapturesGeometryOnce := by
  refine ⟨rfl, fun s hs => ?_⟩
  rw [exec_idle .init hs, work]
  refine ⟨fun hc => ?captures, fun hc => ?faults⟩
  case captures =>
    rw [captureGeometry_first ((accept_constructed s).trans hc)]
    simp [succeed, accept, hs]
  case faults =>
    rw [captureGeometry_again ((accept_constructed s).trans hc), raise_accept _ hs]
    rfl

/-! ## The work of WRREG -/

theorem writeConfig_valid {off : Byte} (val : Byte) {s : State} (hv : offsetValid s.params off = true) :
    writeConfig off val s = writeRegister 1 off val (succeed 0) s := if_pos hv

theorem writeConfig_invalid {off : Byte} (val : Byte) {s : State} (hv : offsetValid s.params off = false) :
    writeConfig off val s = raise (.offsetInvalid off) s := by
  simp [writeConfig, hv]

theorem exec_wrreg_notConstructed (off val : Byte) {s : State} (hs : s.seq = 0) (hc : s.constructed = false) :
    exec (.wrreg off val) s = .next (raise .notConstructed (accept s)) := by
  rw [exec_idle _ hs, work, whenConstructed_false _ _ ((accept_constructed s).trans hc)]

theorem exec_wrreg_constructed (off val : Byte) {s : State} (hs : s.seq = 0) (hc : s.constructed = true) :
    exec (.wrreg off val) s = .next (writeConfig off val (accept s)) := by
  rw [exec_idle _ hs, work, whenConstructed_true _ _ ((accept_constructed s).trans hc)]

/-! ## An accepted operation after its one request -/

section
variable {s : State} (k : BitVec 2) (r : BusRequest)

theorem issue_accept :
    issue k r (accept s) = { s with rValid := 0b0000, seq := k, traffic := s.traffic ++ [r], bus := s.bus.tail } := rfl

/-- A fault makes the block idle again, which it was before the operation (R174). -/
theorem raise_issue_accept (c : Cause) (hs : s.seq = 0) :
    raise c (issue k r (accept s)) = { s with
      rValid := 0b0000, rStatus := c.code, rFinfo := c.info, traffic := s.traffic ++ [r], bus := s.bus.tail } := by
  simp [raise, issue_accept, hs]

/-- A success that delivers no result (R19 to R21). -/
theorem succeed_issue_accept (hs : s.seq = 0) :
    succeed 0 (issue k r (accept s)) = { s with
      rValid := 0b0000, rStatus := 0x00, rFinfo := 0, traffic := s.traffic ++ [r], bus := s.bus.tail } := by
  simp [succeed, issue_accept, hs]

end

/-- Settles O12: the tests in their order, then the three answers to the one write. -/
theorem wrregWritesOneByte : Obligations.WrregWritesOneByte := by
  refine fun off val => ⟨decodeOfEncode (.wrreg off val), fun s hs =>
    ⟨fun hc => ?notConstructed, fun hc hv => ?offsetInvalid, fun hc hv => ?_⟩⟩
  case notConstructed => rw [exec_wrreg_notConstructed off val hs hc, raise_accept _ hs]; rfl
  case offsetInvalid =>
    rw [exec_wrreg_constructed off val hs hc, writeConfig_invalid (s := accept s) val hv, raise_accept _ hs]
    rfl
  rw [exec_wrreg_constructed off val hs hc, writeConfig_valid (s := accept s) val hv]
  refine ⟨fun hw => ?written, fun hw => ?failed, fun hw => ?never⟩
  case written => rw [writeRegister_answered (s := accept s) 1 _ hw, succeed_issue_accept 1 _ hs]; rfl
  case failed => rw [writeRegister_failed (s := accept s) 1 _ hw, raise_issue_accept 1 _ _ hs]; rfl
  case never => rw [writeRegister_never (s := accept s) 1 _ hw]; rfl

end Sys2Proof.Machine
end

section
/-! RDSNAP, TOUCHED and COUNT (`41_snapshot_queries.md` R120 to R126): the lifecycle test of the five commands, the ends of
an operation after `n` reads, and each query followed from read to read. -/

namespace Sys2Proof.Machine

/-! ## The touched flag -/

theorem touchFlag_eq_false_iff (xh : Byte) : touchFlag xh = false ↔ xh >>> 6 = 0b11 := by
  have hbits : xh.extractLsb' 6 2 = 0b11 ↔ xh >>> 6 = 0b11 := by
    simp only [← BitVec.toNat_inj, BitVec.extractLsb'_toNat, BitVec.toNat_ushiftRight, Nat.shiftRight_eq_div_pow]
    bv_omega
  rw [touchFlag, bne_eq_false_iff_eq, noTouch, hbits]

/-- The two bits above six: they are both set from 0xC0 on. -/
theorem shiftRight_six_eq_iff (xh : Byte) : xh >>> 6 = 0b11 ↔ 0xC0 ≤ xh.toNat := by bv_omega

/-- Settles O15: the sentinel is in the two top bits, and the pair is the two flags side by side. -/
theorem touchFlagIsTheSentinelTest : Obligations.TouchFlagIsTheSentinelTest := by
  refine ⟨fun xh => ⟨touchFlag_eq_false_iff xh, ?_⟩, by decide⟩
  rw [touchFlag_eq_false_iff, shiftRight_six_eq_iff]

/-! ## The lifecycle test -/

theorem work_notConstructed {i : Instr} {s : State} (hi : i ≠ .init) (hc : s.constructed = false) :
    work i s = raise .notConstructed s := by
  cases i with
  | init => exact absurd rfl hi
  | wrreg | rdsnap | touched | count | points => exact whenConstructed_false _ _ hc

/-- Settles O31: acceptance, and the fault of the test that stands before all the work. -/
theorem notConstructedComesFirst : Obligations.NotConstructedComesFirst := by
  intro i s hi hs hc
  rw [exec_idle i hs, work_notConstructed (s := accept s) hi hc, raise_accept _ hs]
  rfl

/-- A command behind the lifecycle test, accepted by a constructed block, starts with no read done. -/
theorem exec_constructed {i : Instr} {op : State → State} (hi : work i = whenConstructed op) {s : State}
    (hs : s.seq = 0) (hc : s.constructed = true) : exec i s = .next (op (afterReads 0 s)) := by
  rw [exec_idle i hs, hi, ← afterReads_zero hs, whenConstructed_true _ _ ((afterReads_constructed 0 s).trans hc)]

/-! ## The ends after `n` reads -/

section
variable {s : State} (n : Nat) (hs : s.seq = 0)
include hs

/-- The read after `n` reads fails: TRANSPORT_FAILURE with its index (R171). -/
theorem nextRead_failed_state (k : BitVec 2) (next : Snapshot → State → State) (hk : k = BitVec.ofNat 2 (n + 1))
    (h : replyAfter n s = .failed) :
    readSnapshot k next (afterReads n s) =
      { s.readsDone (n + 1) with rValid := 0b0000, rStatus := 0x05, rFinfo := k.setWidth 24 } := by
  rw [nextRead_failed k next hk h, raise_afterReads _ _ hs]
  rfl

theorem succeed_withSnap (S : Snapshot) :
    succeed (resultFlag .rdsnap) { afterReads n s with rSnap := S } =
      { s.readsDone n with rSnap := S, rValid := 0b0001, rStatus := 0x00, rFinfo := 0 } := by
  simp [succeed, resultFlag, vSnap, afterReads, State.readsDone, hs]

theorem succeed_withTouch (v : BitVec 2) :
    succeed (resultFlag .touched) { afterReads n s with rTouch := v } =
      { s.readsDone n with rTouch := v, rValid := 0b0010, rStatus := 0x00, rFinfo := 0 } := by
  simp [succeed, resultFlag, vTouch, afterReads, State.readsDone, hs]

theorem succeed_withCount (v : Byte) :
    succeed (resultFlag .count) { afterReads n s with rCount := v } =
      { s.readsDone n with rCount := v, rValid := 0b0100, rStatus := 0x00, rFinfo := 0 } := by
  simp [succeed, resultFlag, vCount, afterReads, State.readsDone, hs]

end

/-! ## The three queries -/

/-- Settles O14: one read, its snapshot copied. -/
theorem rdsnapCopiesTheSnapshot : Obligations.RdsnapCopiesTheSnapshot := by
  refine ⟨rfl, fun s hs => ⟨notConstructedComesFirst .rdsnap s (by decide) hs, fun hc => ?_⟩⟩
  rw [exec_constructed (op := copySnapshot) rfl hs hc, copySnapshot]
  refine ⟨fun S h0 => ?copied, fun h0 => ?readFails⟩
  case copied => rw [nextRead_answered 1 _ rfl h0, succeed_withSnap 1 hs]
  case readFails => rw [nextRead_failed_state 0 hs 1 _ rfl h0]; rfl

/-- Settles O17: one read, its byte at 0x02. -/
theorem countReturnsTheRawByte : Obligations.CountReturnsTheRawByte := by
  refine ⟨rfl, fun s hs => ⟨notConstructedComesFirst .count s (by decide) hs, fun hc => ?_⟩⟩
  rw [exec_constructed (op := queryCount) rfl hs hc, queryCount]
  refine ⟨fun S h0 => ?counted, fun h0 => ?readFails⟩
  case counted => rw [nextRead_answered 1 _ rfl h0, succeed_withCount 1 hs, regByte_tdStatus]
  case readFails => rw [nextRead_failed_state 0 hs 1 _ rfl h0]; rfl

theorem queryTouched_single {s : State} (hp : s.params.snapPolicy = .single) : queryTouched s = touchedSingle s := by
  rw [queryTouched, hp]

theorem queryTouched_perStep {s : State} (hp : s.params.snapPolicy = .perStep) :
    queryTouched s = touchedPerStep s := by
  rw [queryTouched, hp]

section
variable {s : State} (hs : s.seq = 0) (hc : s.constructed = true)
include hs hc

theorem exec_touched_single (hp : s.params.snapPolicy = .single) :
    exec .touched s = .next (touchedSingle (afterReads 0 s)) := by
  rw [exec_constructed (op := queryTouched) rfl hs hc, queryTouched_single (s := afterReads 0 s) hp]

theorem exec_touched_perStep (hp : s.params.snapPolicy = .perStep) :
    exec .touched s = .next (touchedPerStep (afterReads 0 s)) := by
  rw [exec_constructed (op := queryTouched) rfl hs hc, queryTouched_perStep (s := afterReads 0 s) hp]

/-- Both policies begin with a read, and its failure ends the operation. -/
theorem exec_touched_failed (h0 : replyAfter 0 s = .failed) :
    exec .touched s = .next { s.readsDone 1 with rValid := 0b0000, rStatus := 0x05, rFinfo := 1 } := by
  cases hp : s.params.snapPolicy with
  | single =>
    rw [exec_touched_single hs hc hp, touchedSingle, nextRead_failed_state 0 hs 1 _ rfl h0]
    rfl
  | perStep =>
    rw [exec_touched_perStep hs hc hp, touchedPerStep, nextRead_failed_state 0 hs 1 _ rfl h0]
    rfl

end

/-- Settles O16: under `single` the one read, under `per_step` the operation followed from its first read to the second. -/
theorem touchedFromTheHighXBytes : Obligations.TouchedFromTheHighXBytes := by
  refine ⟨rfl, fun s hs => ⟨notConstructedComesFirst .touched s (by decide) hs, fun hc =>
    ⟨exec_touched_failed hs hc, fun S h0 hp => ?oneSnapshot, fun Sa h0 hp => ?_⟩⟩⟩
  case oneSnapshot =>
    rw [exec_touched_single hs hc hp, touchedSingle, nextRead_answered 1 _ rfl h0, succeed_withTouch 1 hs, slotTouched,
      slotTouched, regByte_xh1, regByte_xh2]
  rw [exec_touched_perStep hs hc hp, touchedPerStep, nextRead_answered 1 _ rfl h0]
  refine ⟨fun h1 => ?secondFails, fun h1 => ?secondHangs, fun Sb h1 => ?twoSnapshots⟩
  case secondFails => rw [nextRead_failed_state 1 hs 2 _ rfl h1]; rfl
  case secondHangs => rw [nextRead_never 2 _ rfl h1]; rfl
  case twoSnapshots =>
    rw [nextRead_answered 2 _ rfl h1, succeed_withTouch 2 hs, slotTouched, slotTouched, regByte_xh1, regByte_xh2]

end Sys2Proof.Machine
end

section
/-! Each query reads only its own signal (`41_snapshot_queries.md` R127, `42_touch_points_and_rotation.md` R150, R155): the
queries of two blocks whose scripts begin with answers alike in that signal, each answer in its own sense. -/

namespace Sys2Proof.Machine

/-- The display point of a slot is made of its raw point (R145). -/
theorem slotPoint_congr {S S' : Snapshot} {k : Slot} (h : rawPoint S k = rawPoint S' k) (r : Rotation)
    (width height : Geom16) : slotPoint r width height S k = slotPoint r width height S' k := by
  rw [slotPoint, slotPoint, h]

/-- Two snapshots alike in the count and in the raw points it selects (R148, R155). -/
def SameSelected (S S' : Snapshot) : Prop :=
  S[0x02] = S'[0x02] ∧ (1 ≤ S[0x02].toNat → rawPoint S .slot1 = rawPoint S' .slot1) ∧
    (2 ≤ S[0x02].toNat → rawPoint S .slot2 = rawPoint S' .slot2)

theorem SameSelected.refl (S : Snapshot) : SameSelected S S := ⟨rfl, fun _ => rfl, fun _ => rfl⟩

/-- A read of answers alike in the sense `same` ends alike if what follows it does. -/
theorem SameButBus.readScripted {same : Snapshot → Snapshot → Prop} {k : BitVec 2}
    {next next' : Snapshot → State → State} {s s' : State} {a a' : BusAnswer} {later later' : List BusAnswer}
    (h : SameButBus s s') (hb : s.bus = a :: later) (hb' : s'.bus = a' :: later') (ha : AnswersAgree same a a')
    (hsame : ∀ S, same S S)
    (hnext : ∀ S S', a = .ok S.toList → same S S' →
      SameButBus (next S (Machine.issue k snapshotRequest s)) (next' S' (Machine.issue k snapshotRequest s'))) :
    SameButBus (Machine.readSnapshot k next s) (Machine.readSnapshot k next' s') := by
  have hr : snapshotReply s = asSnapshot a := congrArg asSnapshot (answerTo_cons hb _)
  have hr' : snapshotReply s' = asSnapshot a' := congrArg asSnapshot (answerTo_cons hb' _)
  have hreplies : RepliesAgree same (snapshotReply s) (snapshotReply s') := by
    rw [hr, hr']
    exact repliesAgree_of_answersAgree ha
  refine h.readSnapshot hreplies fun S S' hS _ hSS' => hnext S S' (asSnapshot_eq_answered.1 (hr ▸ hS)) ?_
  exact hSS'.elim (fun e => e ▸ hsame S) id

section
variable {s s' : State} {a b c a' b' c' : BusAnswer} {later later' : List BusAnswer} (h : SameButBus s s')
include h

theorem SameButBus.queryCount (hb : s.bus = a :: later) (hb' : s'.bus = a' :: later')
    (ha : AnswersAgree (fun S S' => S[0x02] = S'[0x02]) a a') : SameButBus (queryCount s) (queryCount s') := by
  refine h.readScripted hb hb' ha (fun _ => rfl) fun S S' _ hcount => ?_
  rw [regByte_tdStatus, regByte_tdStatus, hcount]
  exact ((h.issue 1 _).withCount _).succeed _

theorem SameButBus.touchedSingle (hb : s.bus = a :: later) (hb' : s'.bus = a' :: later')
    (ha : AnswersAgree
      (fun S S' => touchFlag S[0x03] = touchFlag S'[0x03] ∧ touchFlag S[0x09] = touchFlag S'[0x09]) a a') :
    SameButBus (touchedSingle s) (touchedSingle s') := by
  refine h.readScripted hb hb' ha (fun _ => ⟨rfl, rfl⟩) fun S S' _ ⟨hflag1, hflag2⟩ => ?_
  have hslot1 : slotTouched S .slot1 = slotTouched S' .slot1 := hflag1
  have hslot2 : slotTouched S .slot2 = slotTouched S' .slot2 := hflag2
  rw [hslot1, hslot2]
  exact ((h.issue 1 _).withTouch _).succeed _

theorem SameButBus.touchedPerStep (hb : s.bus = a :: b :: later) (hb' : s'.bus = a' :: b' :: later')
    (ha : AnswersAgree (fun S S' => touchFlag S[0x03] = touchFlag S'[0x03]) a a')
    (hbb : AnswersAgree (fun S S' => touchFlag S[0x09] = touchFlag S'[0x09]) b b') :
    SameButBus (touchedPerStep s) (touchedPerStep s') := by
  refine h.readScripted hb hb' ha (fun _ => rfl) fun Sa Sa' _ hflag1 => ?_
  refine (h.issue 1 _).readScripted (congrArg List.tail hb) (congrArg List.tail hb') hbb (fun _ => rfl)
    fun Sb Sb' _ hflag2 => ?_
  have hslot1 : slotTouched Sa .slot1 = slotTouched Sa' .slot1 := hflag1
  have hslot2 : slotTouched Sb .slot2 = slotTouched Sb' .slot2 := hflag2
  rw [hslot1, hslot2]
  exact (((h.issue 1 _).issue 2 _).withTouch _).succeed _

theorem SameButBus.pointsSingle (hb : s.bus = a :: later) (hb' : s'.bus = a' :: later')
    (ha : AnswersAgree SameSelected a a') : SameButBus (pointsSingle s) (pointsSingle s') := by
  refine h.readScripted hb hb' ha .refl fun S S' _ ⟨hcount, hpoint1, hpoint2⟩ => ?_
  have hissued := h.issue 1 snapshotRequest
  rw [regByte_tdStatus, regByte_tdStatus, ← hcount]
  split
  case isTrue hsome =>
    refine hissued.whenRotation fun r _ => ?_
    rw [hissued.width, hissued.height, slotPoint_congr (hpoint1 hsome)]
    split
    case isTrue hmore =>
      rw [slotPoint_congr (hpoint2 hmore)]
      exact hissued.finishPoints _
    case isFalse => exact hissued.finishPoints _
  case isFalse => exact hissued.finishPoints _

/-- From the tested rotation on: point 1 is of the second snapshot, and only a count above one asks for a third. -/
theorem SameButBus.perStepPairs (hb : s.bus = c :: later) (hb' : s'.bus = c' :: later') {Sa Sb Sb' : Snapshot}
    (r : Rotation) (hpoint1 : rawPoint Sb .slot1 = rawPoint Sb' .slot1)
    (hc : 2 ≤ Sa[0x02].toNat → AnswersAgree (fun S S' => rawPoint S .slot2 = rawPoint S' .slot2) c c') :
    SameButBus (perStepPairs Sa Sb r s) (perStepPairs Sa Sb' r s') := by
  unfold Machine.perStepPairs
  rw [regByte_tdStatus]
  split
  case isTrue hmore =>
    refine h.readScripted hb hb' (hc hmore) (fun _ => rfl) fun Sc Sc' _ hpoint2 => ?_
    have hissued := h.issue 3 snapshotRequest
    rw [hissued.width, hissued.height, slotPoint_congr hpoint1, slotPoint_congr hpoint2]
    exact hissued.finishPoints _
  case isFalse =>
    rw [h.width, h.height, slotPoint_congr hpoint1]
    exact h.finishPoints _

theorem SameButBus.pointsPerStep (hb : s.bus = a :: b :: c :: later) (hb' : s'.bus = a' :: b' :: c' :: later')
    (ha : AnswersAgree (fun S S' => S[0x02] = S'[0x02]) a a')
    (hbc : ∀ S : Snapshot, a = .ok S.toList →
      (1 ≤ S[0x02].toNat → AnswersAgree (fun S S' => rawPoint S .slot1 = rawPoint S' .slot1) b b') ∧
      (2 ≤ S[0x02].toNat → AnswersAgree (fun S S' => rawPoint S .slot2 = rawPoint S' .slot2) c c')) :
    SameButBus (pointsPerStep s) (pointsPerStep s') := by
  refine h.readScripted hb hb' ha (fun _ => rfl) fun Sa Sa' hSa hcount => ?_
  obtain ⟨hbb, hcc⟩ := hbc Sa hSa
  have hissued := h.issue 1 snapshotRequest
  rw [regByte_tdStatus, regByte_tdStatus, ← hcount]
  split
  case isTrue hsome =>
    refine hissued.readScripted (congrArg List.tail hb) (congrArg List.tail hb') (hbb hsome) (fun _ => rfl)
      fun Sb Sb' _ hpoint1 => (hissued.issue 2 _).whenRotation fun r _ => ?_
    exact ((hissued.issue 2 _).perStepPairs (congrArg (·.tail.tail) hb) (congrArg (·.tail.tail) hb') r hpoint1 hcc)
  case isFalse => exact hissued.finishPoints _

end

theorem queryPoints_single {s : State} (hp : s.params.snapPolicy = .single) : queryPoints s = pointsSingle s := by
  rw [queryPoints, hp]

theorem queryPoints_perStep {s : State} (hp : s.params.snapPolicy = .perStep) : queryPoints s = pointsPerStep s := by
  rw [queryPoints, hp]

/-- Settles O40: each query, once accepted by a constructed block, under the policy it is asked about. -/
theorem queriesReadOnlyTheirSignal : Obligations.QueriesReadOnlyTheirSignal := by
  intro s a b c a' b' c' later before after
  have h : SameButBus before after := rfl
  refine ⟨fun ha => h.exec (h.accept.whenConstructed ?count),
    fun hp ha => h.exec (h.accept.whenConstructed ?touchedSingle),
    fun hp ha hb => h.exec (h.accept.whenConstructed ?touchedPerStep),
    fun hp ha => h.exec (h.accept.whenConstructed ?pointsSingle),
    fun hp ha hbc => h.exec (h.accept.whenConstructed ?pointsPerStep)⟩
  case count => exact h.accept.queryCount rfl rfl ha
  case touchedSingle =>
    rw [queryTouched_single (s := accept before) hp, queryTouched_single (s := accept after) hp]
    exact h.accept.touchedSingle rfl rfl ha
  case touchedPerStep =>
    rw [queryTouched_perStep (s := accept before) hp, queryTouched_perStep (s := accept after) hp]
    exact h.accept.touchedPerStep rfl rfl ha hb
  case pointsSingle =>
    rw [queryPoints_single (s := accept before) hp, queryPoints_single (s := accept after) hp]
    exact h.accept.pointsSingle rfl rfl ha
  case pointsPerStep =>
    rw [queryPoints_perStep (s := accept before) hp, queryPoints_perStep (s := accept after) hp]
    exact h.accept.pointsPerStep rfl rfl ha hbc

end Sys2Proof.Machine
end

section
/-! Every result of `single` is one of `per_step` (`42_touch_points_and_rotation.md` R149): a `per_step` block that is answered
the same at each of its reads has read one snapshot. -/

namespace Sys2Proof.Machine

/-- `t'` has the registers of `t`, but for the phase; the parameters, the bus script and the traffic may differ. -/
def SameRegisters (t t' : State) : Prop :=
  t' = { t with seq := t'.seq, params := t'.params, bus := t'.bus, traffic := t'.traffic }

/-- The two blocks have come to the same phase with the same registers. -/
structure SameResult (t t' : State) : Prop where
  registers : SameRegisters t t'
  seq : t'.seq = t.seq

theorem sameRegisters_iff {t t' : State} :
    SameRegisters t t' ↔ ∃ seq params bus traffic,
      t' = { t with seq := seq, params := params, bus := bus, traffic := traffic } :=
  ⟨fun h => ⟨_, _, _, _, h⟩, by rintro ⟨_, _, _, _, rfl⟩; rfl⟩

/-- The caller sees nothing but phase and registers. -/
theorem SameResult.response {t t' : State} (h : SameResult t t') : response t' = response t := by
  obtain ⟨hregisters, hseq⟩ := h
  obtain ⟨_, _, _, _, rfl⟩ := sameRegisters_iff.1 hregisters
  obtain rfl := hseq
  rfl

theorem SameRegisters.lifecycle {t t' : State} (h : SameRegisters t t') : SameLifecycle t t' := by
  obtain ⟨_, _, _, _, rfl⟩ := sameRegisters_iff.1 h
  exact ⟨rfl, rfl, rfl, rfl⟩

/-! ## The shared operations -/

section
variable {t t' : State} (h : SameRegisters t t')
include h

/-- The phase a request brings the block to is not compared. -/
theorem SameRegisters.issue (k k' : BitVec 2) (r : BusRequest) : SameRegisters (issue k r t) (issue k' r t') := by
  obtain ⟨_, _, _, _, rfl⟩ := sameRegisters_iff.1 h
  rfl

/-- One request more on the right touches no register. -/
theorem SameRegisters.issue_right (k : BitVec 2) (r : BusRequest) : SameRegisters t (Machine.issue k r t') := by
  obtain ⟨_, _, _, _, rfl⟩ := sameRegisters_iff.1 h
  rfl

theorem SameRegisters.withSnap (S : Snapshot) : SameRegisters { t with rSnap := S } { t' with rSnap := S } := by
  obtain ⟨_, _, _, _, rfl⟩ := sameRegisters_iff.1 h
  rfl

theorem SameRegisters.withTouch (v : BitVec 2) : SameRegisters { t with rTouch := v } { t' with rTouch := v } := by
  obtain ⟨_, _, _, _, rfl⟩ := sameRegisters_iff.1 h
  rfl

theorem SameRegisters.withCount (v : Byte) : SameRegisters { t with rCount := v } { t' with rCount := v } := by
  obtain ⟨_, _, _, _, rfl⟩ := sameRegisters_iff.1 h
  rfl

theorem SameRegisters.raise (c : Cause) : SameResult (raise c t) (raise c t') := by
  obtain ⟨_, _, _, _, rfl⟩ := sameRegisters_iff.1 h
  exact ⟨rfl, rfl⟩

theorem SameRegisters.succeed (flag : BitVec 4) : SameResult (succeed flag t) (succeed flag t') := by
  obtain ⟨_, _, _, _, rfl⟩ := sameRegisters_iff.1 h
  exact ⟨rfl, rfl⟩

theorem SameRegisters.finishPoints (pts : List Point) : SameResult (finishPoints pts t) (finishPoints pts t') := by
  refine SameRegisters.succeed ?_ _
  obtain ⟨_, _, _, _, rfl⟩ := sameRegisters_iff.1 h
  unfold deliver
  split <;> rfl

theorem SameRegisters.whenConstructed {op : State → State} (hop : SameResult (op t) (op t')) :
    SameResult (whenConstructed op t) (whenConstructed op t') := by
  have hconstructed : t'.constructed = t.constructed := h.lifecycle.1
  cases hc : t.constructed with
  | true => rwa [whenConstructed_true _ _ hc, whenConstructed_true _ _ (hconstructed.trans hc)]
  | false =>
    rw [whenConstructed_false _ _ hc, whenConstructed_false _ _ (hconstructed.trans hc)]
    exact h.raise _

theorem SameRegisters.whenRotation {use use' : Rotation → State → State}
    (huse : ∀ r, SameResult (use r t) (use' r t')) : SameResult (whenRotation use t) (whenRotation use' t') := by
  obtain ⟨-, hrot, -⟩ := h.lifecycle
  cases hr : rotSelect t.rot with
  | some r =>
    rw [whenRotation_some _ hr, whenRotation_some _ (hrot ▸ hr)]
    exact huse r
  | none =>
    rw [whenRotation_none _ hr, whenRotation_none _ (hrot ▸ hr), hrot]
    exact h.raise _

/-- The same answer to requests of the same index. -/
theorem SameRegisters.afterReply {α : Type} (k : BitVec 2) {reply : Reply α} {next next' : α → State → State}
    (hseq : t'.seq = t.seq) (hnext : ∀ x, reply = .answered x → SameResult (next x t) (next' x t')) :
    SameResult (afterReply k reply next t) (afterReply k reply next' t') := by
  cases reply with
  | answered x => exact hnext x rfl
  | failed => exact h.raise _
  | never => exact ⟨h, hseq⟩

end

/-! ## The per_step block answered the same three times -/

/-- `s` on a `per_step` implementation whose bus answers each of an operation's requests, three at most (R17), with `a`. -/
def asPerStep (a : BusAnswer) (s : State) : State := (s.withPolicy .perStep).withBus (List.replicate 3 a)

theorem sameRegisters_asPerStep (a : BusAnswer) (s : State) : SameRegisters s (asPerStep a s) := rfl

section
variable {s : State} {a : BusAnswer}

theorem captureGeometry_asPerStep : SameResult (captureGeometry s) (captureGeometry (asPerStep a s)) := by
  cases hc : s.constructed with
  | true =>
    rw [captureGeometry_again hc, captureGeometry_again (s := asPerStep a s) hc]
    exact (sameRegisters_asPerStep a s).raise _
  | false =>
    rw [captureGeometry_first hc, captureGeometry_first (s := asPerStep a s) hc]
    exact (sameRegisters_asPerStep a _).succeed _

theorem writeConfig_asPerStep {off val : Byte} (ha : s.answerTo (writeRequest off val) = a) :
    SameResult (writeConfig off val s) (writeConfig off val (asPerStep a s)) := by
  have h := sameRegisters_asPerStep a s
  cases hv : offsetValid s.params off with
  | true =>
    have hreply : writtenReply off val (asPerStep a s) = writtenReply off val s := congrArg asWritten ha.symm
    rw [writeConfig_valid val hv, writeConfig_valid (s := asPerStep a s) val hv, writeRegister, writeRegister, hreply]
    exact (h.issue 1 1 _).afterReply 1 rfl fun _ _ => (h.issue 1 1 _).succeed _
  | false =>
    rw [writeConfig_invalid val hv, writeConfig_invalid (s := asPerStep a s) val hv]
    exact h.raise _

variable (ha : s.answerTo snapshotRequest = a)
include ha

/-- The first read of the two blocks: what follows starts from the same registers, and the `per_step` block's bus has the
same answer for two reads more. -/
theorem firstRead_asPerStep {next next' : Snapshot → State → State}
    (hnext : ∀ S, a = .ok S.toList →
      SameRegisters (issue 1 snapshotRequest s) (issue 1 snapshotRequest (asPerStep a s)) →
      SameResult (next S (issue 1 snapshotRequest s)) (next' S (issue 1 snapshotRequest (asPerStep a s)))) :
    SameResult (readSnapshot 1 next s) (readSnapshot 1 next' (asPerStep a s)) := by
  have hissued := (sameRegisters_asPerStep a s).issue 1 1 snapshotRequest
  have hreply : snapshotReply (asPerStep a s) = asSnapshot a := rfl
  rw [readSnapshot, readSnapshot, hreply, snapshotReply, ha]
  exact hissued.afterReply 1 rfl fun S hS => hnext S (asSnapshot_eq_answered.1 hS) hissued

theorem copySnapshot_asPerStep : SameResult (copySnapshot s) (copySnapshot (asPerStep a s)) :=
  firstRead_asPerStep ha fun S _ hu => (hu.withSnap S).succeed _

theorem queryCount_asPerStep : SameResult (queryCount s) (queryCount (asPerStep a s)) :=
  firstRead_asPerStep ha fun _ _ hu => (hu.withCount _).succeed _

/-- The second snapshot is the first, so slot 2 has the flag it has there. -/
theorem touchedPerStep_asPerStep : SameResult (touchedSingle s) (touchedPerStep (asPerStep a s)) := by
  refine firstRead_asPerStep ha fun S hS hu => ?_
  subst hS
  rw [readSnapshot_answered (S := S) 2 _ (snapshotReply_cons rfl)]
  exact ((hu.issue_right 2 _).withTouch _).succeed _

/-- The second and the third snapshot are the first, so each point is the one it has there. -/
theorem pointsPerStep_asPerStep : SameResult (pointsSingle s) (pointsPerStep (asPerStep a s)) := by
  refine firstRead_asPerStep ha fun S hS hu => ?_
  subst hS
  split
  case isTrue =>
    have hv := hu.issue_right 2 snapshotRequest
    rw [readSnapshot_answered (S := S) 2 _ (snapshotReply_cons rfl)]
    refine hv.whenRotation fun r => ?_
    split
    case isTrue =>
      rw [readSnapshot_answered (S := S) 3 _ (snapshotReply_cons rfl)]
      exact (hv.issue_right 3 _).finishPoints _
    case isFalse => exact hv.finishPoints _
  case isFalse => exact hu.finishPoints _

end

/-- The work of every command under `single` is its work under `per_step` with the first answer given at each request. -/
theorem work_asPerStep {i : Instr} {s : State} {a : BusAnswer} (hp : s.params.snapPolicy = .single)
    (ha : ∀ r, firstRequest i = some r → s.answerTo r = a) : SameResult (work i s) (work i (asPerStep a s)) := by
  have h := sameRegisters_asPerStep a s
  cases i with
  | init => exact captureGeometry_asPerStep
  | wrreg off val => exact h.whenConstructed (writeConfig_asPerStep (ha _ rfl))
  | rdsnap => exact h.whenConstructed (copySnapshot_asPerStep (ha _ rfl))
  | touched =>
    refine h.whenConstructed ?_
    rw [queryTouched_single hp, queryTouched_perStep (s := asPerStep a s) rfl]
    exact touchedPerStep_asPerStep (ha _ rfl)
  | count => exact h.whenConstructed (queryCount_asPerStep (ha _ rfl))
  | points =>
    refine h.whenConstructed ?_
    rw [queryPoints_single hp, queryPoints_perStep (s := asPerStep a s) rfl]
    exact pointsPerStep_asPerStep (ha _ rfl)

/-- Settles O42: the answers are the one that the `single` block gets, three times over. -/
theorem perStepIncludesSingle : Obligations.PerStepIncludesSingle := by
  intro i s t hp ht
  obtain ⟨a, ha⟩ : ∃ a, ∀ r, firstRequest i = some r → s.answerTo r = a :=
    ⟨(firstRequest i).elim .never s.answerTo, fun r hr => by rw [hr]; rfl⟩
  have hresult : SameResult t (whenReady (work i) (asPerStep a s)) := by
    obtain ⟨hs, rfl⟩ | ⟨hs, rfl⟩ := exec_cases ht
    · rw [whenReady_busy _ (asPerStep a t) hs]
      exact ⟨sameRegisters_asPerStep a t, rfl⟩
    · rw [whenReady_idle _ (asPerStep a s) hs]
      exact work_asPerStep (s := accept s) hp ha
  exact ⟨List.replicate 3 a, _, exec_eq_work i _, hresult.response, hresult.seq, hresult.registers.lifecycle⟩

end Sys2Proof.Machine
end

section
/-! The 12-bit coordinate and the raw point of a slot (`42_touch_points_and_rotation.md` R140 to R142). -/

namespace Sys2Proof.Machine

/-- The low nibble of the high byte stands above the low byte, so the two parts add up without a carry (R140). -/
theorem coord12_toNat (high low : Byte) : (coord12 high low).toNat = 256 * (high.toNat % 16) + low.toNat := by
  have hlow : low.toNat < 2 ^ 8 := low.isLt
  have hnibble : (high &&& 0x0F).toNat = high.toNat % 16 := by
    rw [BitVec.toNat_and]
    exact Nat.and_two_pow_sub_one_eq_mod high.toNat 4
  have hshifted : ((high &&& 0x0F).setWidth 12 <<< 8).toNat = (high.toNat % 16) <<< 8 := by
    rw [BitVec.toNat_shiftLeft, BitVec.toNat_setWidth, hnibble]
    omega
  calc (coord12 high low).toNat
      = (high.toNat % 16) <<< 8 ||| low.toNat := by
        rw [coord12, BitVec.toNat_or, hshifted, BitVec.toNat_setWidth_of_le (by decide)]
    _ = 256 * (high.toNat % 16) + low.toNat := by
        rw [← Nat.shiftLeft_add_eq_or_of_lt hlow, Nat.shiftLeft_eq, Nat.mul_comm]

/-- Settles O18: the sum, and the definition itself. -/
theorem coordinateAssembly : Obligations.CoordinateAssembly := fun high low => ⟨coord12_toNat high low, rfl⟩

/-- Widening by zeros leaves the sign bit clear (R79). -/
theorem toInt_setWidth_of_lt {n m : Nat} (h : n < m) (v : BitVec n) : (v.setWidth m).toInt = v.toNat := by
  rw [← BitVec.setWidth'_eq h.le]
  exact BitVec.toInt_setWidth'_of_lt h

/-- Settles O19: each law is read off the sum, whose parts are at most 15 and 255. -/
theorem coordinateLaws : Obligations.CoordinateLaws := by
  intro high low
  have hsum := coord12_toNat high low
  have hlow : low.toNat < 256 := low.isLt
  refine ⟨?range, (coord12_low_nibble high low).symm, ?noSign, ?largest, ?smallest⟩
  case range => omega
  case noSign =>
    rw [toInt_setWidth_of_lt (by decide)]
    exact Int.natCast_nonneg _
  case largest => bv_omega
  case smallest => bv_omega

/-- Settles O20: the offsets of R43 written out, one slot after the other. -/
theorem rawPointBytes : Obligations.RawPointBytes := fun S =>
  ⟨by rw [rawPoint, regByte_xh1, regByte_xl1, regByte_yh1, regByte_yl1],
    by rw [rawPoint, regByte_xh2, regByte_xl2, regByte_yh2, regByte_yl2]⟩

end Sys2Proof.Machine
end

section
/-! The rotation (`42_touch_points_and_rotation.md` R143 to R147): the angles, the rows of the table, and the range in which
its differences are exact. -/

namespace Sys2Proof.Machine

/-! ## The angles (R13) -/

theorem rotSelect_isSome_iff (rot : Geom16) :
    (rotSelect rot).isSome ↔ rot = 0 ∨ rot = 90 ∨ rot = 180 ∨ rot = 270 := by
  constructor
  · intro h
    by_contra! hne
    obtain ⟨h0, h90, h180, h270⟩ := hne
    rw [rotSelect, if_neg h0, if_neg h90, if_neg h180, if_neg h270] at h
    cases h
  · rintro (rfl | rfl | rfl | rfl) <;> rfl

/-! ## The rows of the table (R143) -/

section
variable (w h : Screen) (p : Point)

@[simp] theorem rotate_deg0 : rotate .deg0 w h p = p := rfl
@[simp] theorem rotate_deg90 : rotate .deg90 w h p = ⟨h - p.y, p.x⟩ := rfl
@[simp] theorem rotate_deg180 : rotate .deg180 w h p = ⟨w - p.x, h - p.y⟩ := rfl
@[simp] theorem rotate_deg270 : rotate .deg270 w h p = ⟨p.y, w - p.x⟩ := rfl

end

/-- Settles O21: the angle names the row, and `sub32` is the difference modulo 2^32 (R7). -/
theorem rotationTable : Obligations.RotationTable := by
  refine ⟨rotSelect_isSome_iff, fun r w h p => ⟨?row0, ?row90, ?row180, ?row270⟩⟩
  case row0 =>
    rintro ⟨⟩
    exact rotate_deg0 w h p
  case row90 =>
    rintro ⟨⟩
    rw [rotate_deg90]
    exact ⟨BitVec.toInt_sub, rfl⟩
  case row180 =>
    rintro ⟨⟩
    rw [rotate_deg180]
    exact ⟨BitVec.toInt_sub, BitVec.toInt_sub⟩
  case row270 =>
    rintro ⟨⟩
    rw [rotate_deg270]
    exact ⟨rfl, BitVec.toInt_sub⟩

/-- Settles O23: the rows composed, and the group laws of words under subtraction. -/
theorem rotationLaws : Obligations.RotationLaws := by
  intro w h p
  have undo : rotate .deg270 w h (rotate .deg90 w h p) = ⟨p.x, w - h + p.y⟩ := by
    rw [rotate_deg90, rotate_deg270, sub_add]
  refine ⟨rotate_deg0 w h p, ?twice180, undo, ?square⟩
  case twice180 => rw [rotate_deg180, rotate_deg180, sub_sub_cancel, sub_sub_cancel]
  case square =>
    calc rotate .deg270 w h (rotate .deg90 w h p) = p
        ↔ w - h + p.y = p.y := by rw [undo, Point.mk.injEq, and_iff_right rfl]
      _ ↔ w = h := by rw [add_eq_right, sub_eq_zero]

/-! ## The pipeline's range (R146) -/

/-- The word `v` stands for the integer `z`, and `z` is in the range of the pipeline. -/
def ExactInRange (v : Screen) (z : Int) : Prop := v.toInt = z ∧ -4095 ≤ z ∧ z ≤ 65535

theorem exactInRange_raw (c : Raw12) : ExactInRange (c.setWidth 32) c.toNat := by
  have hc : c.toNat < 4096 := c.isLt
  exact ⟨toInt_setWidth_of_lt (by decide) c, by omega, by omega⟩

/-- A 16-bit dimension less a 12-bit coordinate is far from the ends of i32, so `sub32` does not wrap. -/
theorem exactInRange_sub (d : Geom16) (c : Raw12) :
    ExactInRange (d.setWidth 32 - c.setWidth 32) (d.toNat - c.toNat) := by
  have hd : d.toNat < 65536 := d.isLt
  have hc : c.toNat < 4096 := c.isLt
  refine ⟨?exact, by omega, by omega⟩
  rw [BitVec.toInt_sub, toInt_setWidth_of_lt (by decide), toInt_setWidth_of_lt (by decide)]
  exact Int.bmod_eq_of_le (by omega) (by omega)

theorem ExactInRange.point {q : Point} {x y : Int} (hx : ExactInRange q.x x) (hy : ExactInRange q.y y) :
    (q.x.toInt, q.y.toInt) = (x, y) ∧
    -4095 ≤ q.x.toInt ∧ q.x.toInt ≤ 65535 ∧ -4095 ≤ q.y.toInt ∧ q.y.toInt ≤ 65535 := by
  obtain ⟨rfl, hxmin, hxmax⟩ := hx
  obtain ⟨rfl, hymin, hymax⟩ := hy
  exact ⟨rfl, hxmin, hxmax, hymin, hymax⟩

/-- Settles O22: every entry of the table is a raw coordinate or a dimension less one. -/
theorem pipelineIsExact : Obligations.PipelineIsExact := by
  intro r w h p
  cases r with
  | deg0 => exact (exactInRange_raw p.x).point (exactInRange_raw p.y)
  | deg90 => exact (exactInRange_sub h p.y).point (exactInRange_raw p.x)
  | deg180 => exact (exactInRange_sub w p.x).point (exactInRange_sub h p.y)
  | deg270 => exact (exactInRange_raw p.y).point (exactInRange_sub w p.x)

end Sys2Proof.Machine
end

section
/-! POINTS under `single` (`42_touch_points_and_rotation.md` R148): one read, then the count and the rotation test decide. -/

namespace Sys2Proof.Machine

/-- What POINTS does under `single` with a rotation it has tested: the points of one snapshot, as many as it counts. -/
def singlePairs (S : Snapshot) (r : Rotation) (s : State) : State :=
  if 2 ≤ regByte S .tdStatus then
    finishPoints [slotPoint r s.width s.height S .slot1, slotPoint r s.width s.height S .slot2] s
  else finishPoints [slotPoint r s.width s.height S .slot1] s

theorem exec_points_single {s : State} (hs : s.seq = 0) (hc : s.constructed = true)
    (hp : s.params.snapPolicy = .single) : exec .points s = .next (pointsSingle (afterReads 0 s)) := by
  rw [exec_points hs hc, queryPoints_single (s := afterReads 0 s) hp]

section
variable {s : State} {S : Snapshot} (h0 : replyAfter 0 s = .answered S)
include h0

/-- With a count of 0 there is nothing to rotate (R153). -/
theorem pointsSingle_none (hcount : S[0x02] = 0) :
    pointsSingle (afterReads 0 s) = finishPoints [] (afterReads 1 s) := by
  rw [pointsSingle, nextRead_answered 1 _ rfl h0, regByte_tdStatus, hcount]
  rfl

theorem pointsSingle_some (hcount : 1 ≤ S[0x02].toNat) :
    pointsSingle (afterReads 0 s) = whenRotation (singlePairs S) (afterReads 1 s) := by
  have hsome : 1 ≤ regByte S .tdStatus := by rwa [regByte_tdStatus]
  rw [pointsSingle, nextRead_answered 1 _ rfl h0, if_pos hsome]
  rfl

theorem pointsSingle_rotated {r : Rotation} (hcount : 1 ≤ S[0x02].toNat) (hrot : rotSelect s.rot = some r) :
    pointsSingle (afterReads 0 s) = singlePairs S r (afterReads 1 s) := by
  rw [pointsSingle_some h0 hcount, whenRotation_some (s := afterReads 1 s) _ hrot]

end

theorem singlePairs_one {S : Snapshot} (r : Rotation) (s : State) (hcount : S[0x02] = 1) :
    singlePairs S r s = finishPoints [slotPoint r s.width s.height S .slot1] s := by
  rw [singlePairs, regByte_tdStatus, hcount]
  rfl

theorem singlePairs_more {S : Snapshot} (r : Rotation) (s : State) (hcount : 2 ≤ S[0x02].toNat) :
    singlePairs S r s =
      finishPoints [slotPoint r s.width s.height S .slot1, slotPoint r s.width s.height S .slot2] s := by
  have hmore : 2 ≤ regByte S .tdStatus := by rwa [regByte_tdStatus]
  exact if_pos hmore

/-- Settles O24: the one read, then each count with the rotation it needs. -/
theorem pointsFromOneSnapshot : Obligations.PointsFromOneSnapshot := by
  refine ⟨rfl, fun s hs hp => ⟨notConstructedComesFirst .points s (by decide) hs, fun hc => ?_⟩⟩
  rw [exec_points_single hs hc hp]
  refine ⟨fun h0 => ?readFails, fun S h0 => ⟨fun hnone => ?noPoint, fun hsome hrot => ?invalidRotation,
    fun hone r hrot => ?onePoint, fun hmore r hrot => ?twoPoints⟩⟩
  case readFails => rw [pointsSingle, nextRead_failed_state 0 hs 1 _ rfl h0]; rfl
  case noPoint => rw [pointsSingle_none h0 hnone, finishPoints_none 1 hs]
  case invalidRotation =>
    rw [pointsSingle_some h0 hsome, whenRotation_none (s := afterReads 1 s) _ hrot, raise_afterReads _ 1 hs]
    rfl
  case onePoint =>
    have hsome : 1 ≤ S[0x02].toNat := by rw [hone]; decide
    rw [pointsSingle_rotated h0 hsome hrot, singlePairs_one r _ hone, finishPoints_one _ 1 hs]
    rfl
  case twoPoints =>
    have hsome : 1 ≤ S[0x02].toNat := by omega
    rw [pointsSingle_rotated h0 hsome hrot, singlePairs_more r _ hmore, finishPoints_two _ _ 1 hs]
    rfl

end Sys2Proof.Machine
end

section
/-! A command that has not succeeded (`60_exceptions.md` sections 2 and 5): the frame of a fault or a wait (R174, R176), the
wait for a first request that is never answered, and the hang that follows (R183). -/

namespace Sys2Proof.Machine

/-! ## Faults and waits -/

/-- Only the successful end writes a result: a fault or a wait has issued its requests, and written status and phase. -/
theorem Ends.frame_of_not_succeeded {i : Instr} {s t : State} (h : Ends i s t) (hns : ¬ Succeeded t) :
    t = { s with
      seq := t.seq, rStatus := t.rStatus, rFinfo := t.rFinfo, traffic := t.traffic, bus := t.bus } := by
  obtain ⟨rs, -, ⟨c, -, rfl⟩ | ⟨-, -, rfl⟩ | ⟨u, -, rfl⟩⟩ := h
  · rfl
  · rfl
  · exact absurd ⟨rfl, rfl⟩ hns

/-- Settles O33: acceptance has cleared the flags, and the unsuccessful end keeps the rest. -/
theorem faultsAreAllOrNothing : Obligations.FaultsAreAllOrNothing := fun _ _ _ hs h hns =>
  (exec_ends hs h).frame_of_not_succeeded hns

/-! ## The first request -/

/-- A command whose first request is a snapshot begins its work with that read, whatever it makes of the answer and under
either policy (R120 (b)). -/
theorem work_begins_with_read {i : Instr} {s : State} (hc : s.constructed = true)
    (hi : firstRequest i = some snapshotRequest) : ∃ next, work i s = readSnapshot 1 next s := by
  cases i with
  | init | wrreg => simp [firstRequest, writeRequest, snapshotRequest] at hi
  | rdsnap => exact ⟨_, whenConstructed_true _ _ hc⟩
  | count => exact ⟨_, whenConstructed_true _ _ hc⟩
  | touched =>
    rw [work, whenConstructed_true _ _ hc]
    cases hp : s.params.snapPolicy with
    | single => exact ⟨_, queryTouched_single hp⟩
    | perStep => exact ⟨_, queryTouched_perStep hp⟩
  | points =>
    rw [work, whenConstructed_true _ _ hc]
    cases hp : s.params.snapPolicy with
    | single => exact ⟨_, queryPoints_single hp⟩
    | perStep => exact ⟨_, queryPoints_perStep hp⟩

theorem work_wrreg_valid {off : Byte} (val : Byte) {s : State} (hc : s.constructed = true)
    (hv : offsetValid s.params off = true) : work (.wrreg off val) s = writeRegister 1 off val (succeed 0) s := by
  rw [work, whenConstructed_true _ _ hc, writeConfig_valid val hv]

/-- Without an answer to its first request a command has done nothing but issue it (R183). -/
theorem work_unanswered {i : Instr} {s : State} {r : BusRequest} (hc : s.constructed = true)
    (hi : firstRequest i = some r) (hv : ∀ off val, i = .wrreg off val → offsetValid s.params off = true)
    (ha : s.answerTo r = .never) : work i s = issue 1 r s := by
  cases i with
  | init => simp [firstRequest] at hi
  | wrreg off val =>
    obtain rfl := Option.some.inj hi
    have hw : writtenReply off val s = .never := by rw [writtenReply, ha, asWritten_never]
    rw [work_wrreg_valid val hc (hv off val rfl), writeRegister_never 1 _ hw]
  | rdsnap | touched | count | points =>
    obtain rfl := Option.some.inj hi
    obtain ⟨next, hwork⟩ := work_begins_with_read hc hi
    have hread : snapshotReply s = .never := by rw [snapshotReply, ha, asSnapshot_never]
    rw [hwork, readSnapshot_never 1 next hread]

/-- Settles O29: acceptance, then the request alone. -/
theorem unansweredRequestHangs : Obligations.UnansweredRequestHangs := by
  intro i s r hs hc hi hv ha
  rw [exec_idle i hs, work_unanswered (s := accept s) hc hi hv ha, issue_accept]

/-! ## The hang -/

/-- `t` is `s` but for the pins of `n` steps, which have been taken. -/
def PinsTaken (n : Nat) (s t : State) : Prop :=
  t = { s with inputs := s.inputs.drop n, geomPort := t.geomPort }

theorem pinsTaken_zero (s : State) : PinsTaken 0 s s := rfl

theorem pinsTaken_sampleInputs (s : State) : PinsTaken 1 s (sampleInputs s) := by
  cases hin : s.inputs with
  | nil =>
    have hnone : s.inputs.drop 1 = s.inputs := by rw [hin, List.drop_nil]
    rw [PinsTaken, sampleInputs_nil s hin, hnone]
  | cons p rest => simp [PinsTaken, sampleInputs_cons s p rest hin, hin]

theorem PinsTaken.trans {m n : Nat} {s t u : State} (h : PinsTaken m s t) (h' : PinsTaken n t u) :
    PinsTaken (m + n) s u := by
  unfold PinsTaken at h h' ⊢
  rw [h', h]
  simp [List.drop_drop]

/-- The pins of the next `n + 1` steps are those of this step and of the `n` after it. -/
theorem noReset_succ_iff {n : Nat} {s : State} :
    (∀ p ∈ s.inputs.take (n + 1), p.reset = false) ↔
      resetAsserted s = false ∧ ∀ p ∈ (sampleInputs s).inputs.take n, p.reset = false := by
  cases hin : s.inputs with
  | nil => simp [resetAsserted, hin]
  | cons p rest => simp [resetAsserted, hin]

/-- Settles O30: by induction on the number of steps, each of which takes its pins and leaves the block busy. -/
theorem hangLastsUntilReset : Obligations.HangLastsUntilReset := by
  intro n
  induction n with
  | zero => exact fun s _ _ => ⟨s, rfl, pinsTaken_zero s⟩
  | succ n ih =>
    intro s hs hreset
    obtain ⟨hnow, hlater⟩ := noReset_succ_iff.mp hreset
    have hbusy : (sampleInputs s).seq ≠ 0 := by rwa [sampleInputs_seq]
    obtain ⟨t, hrun, htaken⟩ := ih (sampleInputs s) hbusy hlater
    refine ⟨t, (run_succ_of_next n (step_busy hs hnow)).trans hrun, ?_⟩
    rw [Nat.add_comm]
    exact (pinsTaken_sampleInputs s).trans htaken

end Sys2Proof.Machine
end

section
/-! The steps that present no word (`70_reset_and_hazards.md` R200 to R203): the quiet step and the reset event. -/

namespace Sys2Proof.Machine

theorem step_of_no_word {s : State} (hw : presentedWord s = none) : step s = .next (quietStep s) := by
  simp [step, hw]

theorem quietStep_of_no_reset {s : State} (hr : resetAsserted s = false) : quietStep s = sampleInputs s := by
  simp [quietStep, hr]

theorem quietStep_of_reset {s : State} (hr : resetAsserted s = true) : quietStep s = applyReset (sampleInputs s) := by
  simp [quietStep, hr]

/-- Settles O8: a step without a word and without reset only takes the pins, and at rest there are none to take. -/
theorem nothingPresentedNothingDone : Obligations.NothingPresentedNothingDone := by
  refine ⟨fun s p rest h hr hc => ?_, fun s h => ?_⟩
  · have hword : presentedWord s = none := (presentedWord_cons h hr).trans hc
    rw [step_of_no_word hword, quietStep_of_no_reset (resetAsserted_cons h hr), sampleInputs_cons s p rest h]
  · have hword : presentedWord s = none := by simp [presentedWord, h]
    have hreset : resetAsserted s = false := by simp [resetAsserted, h]
    rw [step_of_no_word hword, quietStep_of_no_reset hreset, sampleInputs_nil s h]

/-- The reset input overrides the command port (log entry 10). -/
theorem step_reset {s : State} {p : Inputs} {rest : List Inputs} (h : s.inputs = p :: rest) (hr : p.reset = true) :
    step s = .next (applyReset { s with inputs := rest, geomPort := p.geom }) := by
  have hword : presentedWord s = none := by simp [presentedWord, h, hr]
  have hreset : resetAsserted s = true := by simp [resetAsserted, h, hr]
  rw [step_of_no_word hword, quietStep_of_reset hreset, sampleInputs_cons s p rest h]

/-- After the reset event every flag is clear, whichever is asked for (R31). -/
theorem flag_applyReset (s : State) (flag : BitVec 4) : (applyReset s).rValid &&& flag = 0 := by
  simp

/-- Settles O9: the registers by R31, the reads by the clear flags, and what is outside the block stays. -/
theorem resetFromAnyPhase : Obligations.ResetFromAnyPhase := by
  intro s p rest h hr
  have hflag := flag_applyReset { s with inputs := rest, geomPort := p.geom }
  exact ⟨_, step_reset h hr, reset_constructed, reset_seq, reset_rStatus, reset_rFinfo, reset_rValid,
    readIf_clear _ _ (hflag _), readIf_clear _ _ (hflag _), readIf_clear _ _ (hflag _), readIf_clear _ _ (hflag _),
    readX_clear (hflag _), readY_clear (hflag _), rfl, rfl, rfl, rfl, rfl⟩

end Sys2Proof.Machine
end

section
/-! The outcome of a run (`70_reset_and_hazards.md` R206): command by command, its responses counted, and its transactions
read off the traffic. -/

namespace Sys2Proof.Machine

/-! ## The step of one command, whatever commands follow it -/

theorem wordWork_withInputs (w : CmdWord) (s : State) (pins : List Inputs) :
    wordWork w (withInputs s pins) = withInputs (wordWork w s) pins := by
  unfold wordWork
  split
  · exact work_withInputs _ s pins
  · rfl

theorem whenReady_wordWork_withInputs (w : CmdWord) (s : State) (pins : List Inputs) :
    whenReady (wordWork w) (withInputs s pins) = withInputs (whenReady (wordWork w) s) pins := by
  by_cases hs : s.seq = 0
  · rw [whenReady_idle _ _ hs, whenReady_idle (s := withInputs s pins) _ hs, ← wordWork_withInputs]
    rfl
  · rw [whenReady_busy _ _ hs, whenReady_busy (s := withInputs s pins) _ hs]

/-- What the block becomes in a step that presents the command `p`. -/
def presented (p : Presentation) (s : State) : State := whenReady (wordWork p.word) { s with geomPort := p.geom }

/-- A run's first step takes the first command's pins and leaves those of the other commands. -/
theorem step_initial_cons (s : State) (p : Presentation) (later : List Presentation) (draws : List BusAnswer) :
    step (Run.initial ⟨s, p :: later, draws⟩) =
      .next (withInputs (presented p (s.withBus draws)) (later.map Presentation.pins)) := by
  have hpins : (Run.initial ⟨s, p :: later, draws⟩).inputs = p.pins :: later.map Presentation.pins := rfl
  rw [step_pins hpins, sampleInputs_cons _ _ _ hpins, presented, ← whenReady_wordWork_withInputs]
  rfl

/-! ## The outcome along the commands -/

theorem outcome_nil (s : State) (draws : List BusAnswer) : Run.outcome ⟨s, [], draws⟩ = ⟨[], [], s.seq == 0⟩ := rfl

/-- The first step adds what it adds, and the run goes on from the state it answers. -/
theorem outcome_cons {s t : State} {p : Presentation} {draws : List BusAnswer} (later : List Presentation)
    (h : step (Run.initial ⟨s, [p], draws⟩) = .next t) :
    Run.outcome ⟨s, p :: later, draws⟩ =
      { responses := (if s.seq = 0 then (response t).toList else []) ++ (Run.outcome ⟨t, later, t.bus⟩).responses
        transactions := newTransactions s t ++ (Run.outcome ⟨t, later, t.bus⟩).transactions
        ended := (Run.outcome ⟨t, later, t.bus⟩).ended } := by
  obtain rfl := Host.Outcome.next.inj (h.symm.trans (step_initial_cons s p [] draws))
  have hready : acceptsCommand (Run.initial ⟨s, p :: later, draws⟩) = (s.seq == 0) := acceptsCommand_pins rfl
  rw [Run.outcome, List.length_cons, observe_succ _ (step_initial_cons s p later draws), endedOperation, hready]
  simp only [beq_iff_eq]
  rfl

/-- After a hang nothing more is seen of a run, and it has no end (R71, R183). -/
theorem outcome_busy (commands : List Presentation) : ∀ {s : State} (draws : List BusAnswer), s.seq ≠ 0 →
    Run.outcome ⟨s, commands, draws⟩ = ⟨[], [], false⟩ := by
  induction commands with
  | nil =>
    intro s draws hs
    rw [outcome_nil, beq_eq_false_iff_ne.mpr hs]
  | cons p later ih =>
    intro s draws hs
    have hstep := step_busy (s := Run.initial ⟨s, [p], draws⟩) hs rfl
    have hnone : newTransactions s (sampleInputs (Run.initial ⟨s, [p], draws⟩)) = [] := newTransactions_self s
    rw [outcome_cons later hstep, if_neg hs, hnone, ih _ (by simpa using hs)]
    rfl

/-- Settles O50: the first step's operation has ended and has a response, or it hangs and nothing follows. -/
theorem runOutcomeCommandByCommand : Obligations.RunOutcomeCommandByCommand := by
  intro s draws hs
  refine ⟨by rw [outcome_nil, hs]; rfl, fun p later => ?_⟩
  obtain ⟨t, hstep⟩ := step_goes_on (Run.initial ⟨s, [p], draws⟩)
  refine ⟨t, hstep, fun ht => ⟨_, response_idle ht, ?_⟩, fun ht => ?_⟩
  · rw [outcome_cons later hstep, if_pos hs, response_idle ht]
    rfl
  · simp [outcome_cons later hstep, hs, response_busy ht, outcome_busy later _ ht]

/-- O51, with the start state and the draws free for the induction: each command that ends adds one response, and a hang
leaves its own command without one. -/
theorem responses_length_le_and_ended_iff (commands : List Presentation) :
    ∀ (s : State) (draws : List BusAnswer), s.seq = 0 →
    (Run.outcome ⟨s, commands, draws⟩).responses.length ≤ commands.length ∧
    ((Run.outcome ⟨s, commands, draws⟩).ended = true ↔
      (Run.outcome ⟨s, commands, draws⟩).responses.length = commands.length) := by
  induction commands with
  | nil =>
    intro s draws hs
    simp [outcome_nil, hs]
  | cons p later ih =>
    intro s draws hs
    obtain ⟨-, hfirst⟩ := runOutcomeCommandByCommand s draws hs
    obtain ⟨t, -, hends, hhangs⟩ := hfirst p later
    by_cases ht : t.seq = 0
    · obtain ⟨r, -, houtcome⟩ := hends ht
      simpa [houtcome] using ih t t.bus ht
    · simp [hhangs ht]

/-- Settles O51: by the induction on the commands, at the run's own start state and draws. -/
theorem oneResponseForEachCommand : Obligations.OneResponseForEachCommand :=
  fun r hs => responses_length_le_and_ended_iff r.commands r.start r.draws hs

/-! ## The traffic -/

/-- No step takes back a request that the bus has seen: a command appends its own, any other step none. -/
theorem step_appends_traffic {s t : State} (h : step s = .next t) : ∃ added, t.traffic = s.traffic ++ added := by
  obtain ⟨-, -, hquiet⟩ | ⟨-, -, hreset⟩ | ⟨w, e, -, -, hillegal⟩ | ⟨w, i, -, -, hexec⟩ := step_cases s
  · obtain rfl := Host.Outcome.next.inj (h.symm.trans hquiet)
    exact ⟨[], by simp⟩
  · obtain rfl := Host.Outcome.next.inj (h.symm.trans hreset)
    exact ⟨[], by simp⟩
  · obtain rfl := Host.Outcome.next.inj (h.symm.trans hillegal)
    refine ⟨[], ?_⟩
    by_cases hs : (sampleInputs s).seq = 0
    · simp [illegalCommand, whenReady_idle _ _ hs]
    · simp [illegalCommand, whenReady_busy _ _ hs]
  · obtain ⟨added, htraffic, -⟩ := onlyWholeReadsAndOneByteWrites i (sampleInputs s) t (hexec ▸ h)
    exact ⟨added, by rw [htraffic, sampleInputs_traffic]⟩

/-- What is seen over any steps, whatever the pins do: the traffic added, and whether the block is idle after them. -/
theorem observe_traffic (n : Nat) : ∀ s : State, ∃ t, Sys2Proof.core.run n s = .next t ∧
    t.traffic = s.traffic ++ (observe n s).transactions ∧ ((observe n s).ended = true ↔ t.seq = 0) := by
  induction n with
  | zero => exact fun s => ⟨s, rfl, by simp [observe_zero], by simp [observe_zero]⟩
  | succ n ih =>
    intro s
    obtain ⟨t, hstep⟩ := step_goes_on s
    obtain ⟨added, hadded⟩ := step_appends_traffic hstep
    obtain ⟨u, hrun, htraffic, hended⟩ := ih t
    refine ⟨u, (run_succ_of_next n hstep).trans hrun, ?_, ?_⟩
    · rw [observe_succ n hstep, newTransactions_append hadded, htraffic, hadded, List.append_assoc]
    · rwa [observe_succ n hstep]

/-- Settles O52: of the steps of the run, whose placed commands and draws are no traffic. -/
theorem runTransactionsAreTheTraffic : Obligations.RunTransactionsAreTheTraffic := by
  intro r
  rw [Run.outcome, ← initial_traffic r]
  exact observe_traffic r.commands.length r.initial

end Sys2Proof.Machine
end
